-- ==== Sys2Proof/Word.lean ====
section
/-! DEFINITION. The words of the block (spec/00_scope.md R7): every value is unsigned, and every width is one of these. -/

namespace Sys2Proof

/-- A `u8` (R7): scancode bytes, vectors, lines, port data, ring indices. -/
abbrev Byte := BitVec 8

/-- A `u16` (R7): selectors, the table limit. -/
abbrev Word16 := BitVec 16

/-- A `u64` (R7): addresses, ticks, delays. -/
abbrev Word64 := BitVec 64

/-- A 16-bit I/O port address (R82). -/
abbrev Port := BitVec 16

/-- A key-event word, format F-EV (R120, D5). -/
abbrev Event := BitVec 16

/-- A callback reference. Its type is OPEN in R6 (D27): the references are numbers, of no fixed width, and which of them
there are is the configuration's (`Config.callbackRefs`, log 7). -/
abbrev CallbackId := Nat

/-- A 144-bit request record, format F-REQ (R130). -/
abbrev RequestWord := BitVec 144

end Sys2Proof
end

