-- ==== Sys2Proof/Syntax.lean ====
section
/-! DEFINITION. The requests of the block: one constructor of `Instr` per row of spec/opcode_table.json (R131), the
operation selectors, and the raw request record (R130). Every operand has the width the spec gives it, so a term of
`Instr` cannot hold an operand the record cannot carry (R160: "met by the operand's type"). -/

namespace Sys2Proof

/-- A request with its operands (R131; the rule of each operation is named at its constructor). -/
inductive Instr where
  /-- R160: write the gate of vector `v` with handler `h` and attribute byte `attr`. -/
  | setGate (v : Byte) (h : Word64) (attr : Byte)
  /-- R161: build the interrupt table and load the table pointer. -/
  | idtInit
  /-- R181: reprogram the controller pair with vector offsets `o1` (primary) and `o2` (secondary). -/
  | picRemap (o1 o2 : Byte)
  /-- R185: acknowledge `line`. -/
  | picEoi (line : Byte)
  /-- R200: dispatch vector `v`. -/
  | handle (v : Byte)
  /-- R220: count one tick and scan the timeout table. -/
  | tick
  /-- R226: scan the timeout table. -/
  | advance
  /-- R230: arm callback `cb` after `d` ticks. -/
  | schedule (cb : Word64) (d : Word64)
  /-- R236: wait until `ms` ticks have been counted. -/
  | sleep (ms : Word64)
  /-- R240: read the tick counter. -/
  | uptime
  /-- R241: split `ms` into hours, minutes, seconds, milliseconds. -/
  | format (ms : Word64)
  /-- R260: read one scancode byte and decode it. -/
  | kbdIntake
  /-- R261: decode the scancode byte `b`. -/
  | kbdDecode (b : Byte)
  /-- R280: write the lock LEDs. -/
  | kbdLedWrite
  /-- R321: push the event `e`. -/
  | rbPush (e : Event)
  /-- R323: pop an event. -/
  | rbPop
  deriving DecidableEq, Repr

/-- The operations the selector field names (R131), without operands. -/
inductive Op where
  | setGate | idtInit | picRemap | picEoi | handle | tick | advance | schedule
  | sleep | uptime | format | kbdIntake | kbdDecode | kbdLedWrite | rbPush | rbPop
  deriving DecidableEq, Repr

/-- The operation of a request. -/
def Instr.op : Instr → Op
  | .setGate _ _ _ => .setGate
  | .idtInit => .idtInit
  | .picRemap _ _ => .picRemap
  | .picEoi _ => .picEoi
  | .handle _ => .handle
  | .tick => .tick
  | .advance => .advance
  | .schedule _ _ => .schedule
  | .sleep _ => .sleep
  | .uptime => .uptime
  | .format _ => .format
  | .kbdIntake => .kbdIntake
  | .kbdDecode _ => .kbdDecode
  | .kbdLedWrite => .kbdLedWrite
  | .rbPush _ => .rbPush
  | .rbPop => .rbPop

/-- The four fields of a request record (R130). -/
structure Request where
  op : Byte
  a : Byte
  b : Word64
  c : Word64
  deriving DecidableEq, Repr

end Sys2Proof
end

