-- ==== Sys2Proof/Config.lean ====
section
/-! DEFINITION. What the spec leaves to the environment: the OPEN parameters (R6), the environment's stimuli (R136) and
the inputs of a run, and the free values, which have no body. The values that R6 gives as defaults stand in
Machine/Params.lean and Machine/Tables.lean. -/

namespace Sys2Proof

/-- Who runs or issues a request: the "contexts" column of R131. -/
inductive Context where
  /-- M, main context. -/
  | main
  /-- I, interrupt context. -/
  | interrupt
  /-- CB, a callback running in interrupt context. -/
  | callback
  /-- E, the environment's delivery. -/
  | environment
  deriving DecidableEq, Repr

/-- What callback code does when it is invoked (R228, R229; the `cb` stimulus of R136): the requests it issues, in
order, and whether it returns. Its effects outside the block are not modelled (R229). -/
structure CallbackText where
  requests : List RequestWord
  returns : Bool
  deriving DecidableEq, Repr, Inhabited

/-- How long the keyboard controller's input buffer stays full (R51, R136 `kbc_busy`, R280): for the next `n` reads of
the status port, or for ever (95_test_vectors.md VL5, log 17). -/
inductive Busy where
  | reads (n : Nat)
  | forever
  deriving DecidableEq, Repr

/-- One act of the environment (R136). Three are not in the list of R136: `take`, the CPU accepting the controller pair's
ready request, which R349 step 4 says "the environment may deliver", apart from `irq`, which only raises the line (log
10); `kbcStuck`, the controller whose status bit 1 "stays 1 for ever" (VL5, log 17); and `kbdStatus`, the environment's
draw of the status bits that no rule fixes (R12, log 36). -/
inductive Stimulus where
  | cli
  | sti
  | irq (line : Fin 16)
  | take
  | deliver (v : Byte)
  | kbd (b : Byte)
  | kbcBusy (n : Nat)
  | kbcStuck
  | kbdStatus (b : Byte)
  | mask (m1 m2 : Byte)
  | cb (id : CallbackId) (text : CallbackText)
  deriving DecidableEq, Repr

/-- One input of a run (log 8, 9). `during` holds the batches of stimuli that land at the successive step boundaries of
what the input sets going. -/
inductive Input where
  /-- A batch of stimuli at the boundary main context stands at; what is delivered there runs under `during`. -/
  | stim (batch : List Stimulus) (during : List (List Stimulus))
  /-- Main context takes its next numbered step before the next input lands. -/
  | proceed (during : List (List Stimulus))
  /-- A request, with the context that issues it. -/
  | request (issuer : Context) (word : RequestWord) (during : List (List Stimulus))
  /-- R137 `drain`: RB_POP until it returns EV_NONE, the successive pops under the successive scripts. -/
  | drain (scripts : List (List (List Stimulus)))
  deriving DecidableEq, Repr

namespace Machine

/-- Where main context stands (R236, R347, log 22, 23): between operations; inside a SLEEP that started at `start`, about
to make the check of step 3, about to Halt (step 4), or halted; or at an instruction that raises the exception `v` each
time it is executed, with the main-context state that it interrupts (`MainPoint`, whose fields the others are). -/
inductive MainCtl where
  | idle
  | sleepCheck (start ms : Word64)
  | sleepHalt (start ms : Word64)
  | halted (start ms : Word64)
  | raising (v : Byte) (ctl : MainCtl) (op : Option Instr) (passed : Nat) (next : List Input)
  deriving DecidableEq, Repr

end Machine

/-- The "interrupted main-context state" of R347 (log 22): where main context stands, the request it is in (if any), how
many of that request's step boundaries have passed, and what it would do next. -/
structure MainPoint where
  ctl : Machine.MainCtl
  op : Option Instr
  passed : Nat
  next : List Input
  deriving DecidableEq, Repr

/-- Where main context continues after an exception report (R347, parameter EXC_RESUME, log 22). -/
inductive Resume where
  /-- Past the reported instruction (the source's reading, and configuration C0). -/
  | past
  /-- At the faulting instruction, which raises the exception again (R347: a livelock of main context). -/
  | retry
  /-- Elsewhere: main context runs another program. -/
  | elsewhere (program : List Input)
  deriving DecidableEq, Repr

/-- One entry of EXC_RESUME: for an exception vector and an interrupted main-context state (every one, where none is
named), where main context continues. -/
structure ResumeRule where
  vector : Byte
  point : Option MainPoint
  resume : Resume
  deriving DecidableEq, Repr

/-- The OPEN parameters of R6. They are plain data of the state that no operation writes, so a statement about every
state is about every configuration (log 5). -/
structure Config where
  /-- IDT_BASE, the address of slot 0. -/
  idtBase : Word64
  /-- IDTP_ADDR, the address of the pointer record. -/
  idtpAddr : Word64
  /-- STUB[0..47], the stub entry addresses. -/
  stub : Vector Word64 48
  /-- CallbackId, the callback reference type (D27): which reference the operand of SCHEDULE denotes, for the operands
  listed (the first entry counts); every other denotes its own number. With nothing listed the type is `u64`. -/
  callbackRefs : List (Word64 × CallbackId)
  /-- EXC_RESUME (R347): the first entry for the vector and the interrupted main-context state; where none is listed,
  past the reported instruction. -/
  excResume : List ResumeRule
  deriving DecidableEq, Repr

/-- Main context continues past every reported instruction (the source's reading of R347, and configuration C0). -/
def Config.resumesPast (c : Config) : Prop := ∀ r ∈ c.excResume, r.resume = .past

/-- FREE VALUE (log 19): the byte the environment answers to the `n`-th port read whose answer no rule of the spec
gives (R12: "The environment's answer to a read is a draw"). It has no body: nothing can be proved of it. -/
opaque Config.portAnswer (port : Port) (n : Nat) : Byte

/-- FREE VALUE (log 18): what a callback does at the `n`-th free choice, when no `cb` stimulus has said what it does
(R228: the callback is environment code). It has no body. -/
opaque Config.freeCallback (id : CallbackId) (n : Nat) : CallbackText

end Sys2Proof
end

