-- ==== Sys2Proof/WellFormed.lean ====
section
/-! DEFINITION. Well-formedness: of a request record (R130 to R132) and of a configuration (R80). A term of `Instr` needs
no check, because each operand's type has the width of its field. -/

namespace Sys2Proof

/-- The selector byte of each operation (R131). -/
def Op.selector : Op → Byte
  | .setGate => 0x01
  | .idtInit => 0x02
  | .picRemap => 0x03
  | .picEoi => 0x04
  | .handle => 0x05
  | .tick => 0x06
  | .advance => 0x07
  | .schedule => 0x08
  | .sleep => 0x09
  | .uptime => 0x0A
  | .format => 0x0B
  | .kbdIntake => 0x0C
  | .kbdDecode => 0x0D
  | .kbdLedWrite => 0x0E
  | .rbPush => 0x0F
  | .rbPop => 0x10

/-- Every operation, in the order of R131. -/
def Op.all : List Op :=
  [.setGate, .idtInit, .picRemap, .picEoi, .handle, .tick, .advance, .schedule,
   .sleep, .uptime, .format, .kbdIntake, .kbdDecode, .kbdLedWrite, .rbPush, .rbPop]

/-- R130, R131: the fields the operation does not use are zero. -/
def Op.unusedZero (o : Op) (r : Request) : Bool :=
  match o with
  | .setGate => r.c.toNat < 256
  | .idtInit | .tick | .advance | .uptime | .kbdIntake | .kbdLedWrite | .rbPop => r.a == 0 && r.b == 0 && r.c == 0
  | .picRemap => r.b.toNat < 256 && r.c == 0
  | .picEoi | .handle | .kbdDecode => r.b == 0 && r.c == 0
  | .schedule => r.a == 0
  | .sleep | .format => r.a == 0 && r.c == 0
  | .rbPush => r.a == 0 && r.b.toNat < 65536 && r.c == 0

/-- A record that names an operation (else UnknownOp, R132) and leaves its unused fields zero (else NonzeroUnused, R130). -/
def Request.wellFormed (r : Request) : Bool :=
  Op.all.any fun o => o.selector == r.op && o.unusedZero r

/-- R80: the table, 4096 bytes at IDT_BASE, and the pointer record, 10 bytes at IDTP_ADDR, do not overlap. Addresses
count modulo 2^64 (log 15, 16). -/
def Config.wellFormed (c : Config) : Bool :=
  decide (4096 ≤ (c.idtpAddr - c.idtBase).toNat) && decide (10 ≤ (c.idtBase - c.idtpAddr).toNat)

end Sys2Proof
end

