-- ==== Sys2Proof/Decode.lean ====
section
/-! DEFINITION. The decoder of request records (R130 to R132), total on all 144-bit records, rejecting by name; the encoder,
written from the same table; and the host's table word. -/

namespace Sys2Proof

/-- The operation a selector byte names (R131); 0x00 and 0x11..0xFF name none (R132). -/
def Op.ofSelector (x : Byte) : Option Op :=
  match x.toNat with
  | 0x01 => some .setGate
  | 0x02 => some .idtInit
  | 0x03 => some .picRemap
  | 0x04 => some .picEoi
  | 0x05 => some .handle
  | 0x06 => some .tick
  | 0x07 => some .advance
  | 0x08 => some .schedule
  | 0x09 => some .sleep
  | 0x0A => some .uptime
  | 0x0B => some .format
  | 0x0C => some .kbdIntake
  | 0x0D => some .kbdDecode
  | 0x0E => some .kbdLedWrite
  | 0x0F => some .rbPush
  | 0x10 => some .rbPop
  | _ => none

/-- The `must_be_zero` column of spec/opcode_table.json: the bits that are 1 here must be 0 in the record. -/
def Op.mustBeZero : Op → RequestWord
  | .setGate => 0xFFFFFFFFFFFFFF0000000000000000000000
  | .idtInit => 0xFFFFFFFFFFFFFFFFFFFFFFFFFFFFFFFFFF00
  | .picRemap => 0xFFFFFFFFFFFFFFFFFFFFFFFFFFFFFF000000
  | .picEoi => 0xFFFFFFFFFFFFFFFFFFFFFFFFFFFFFFFF0000
  | .handle => 0xFFFFFFFFFFFFFFFFFFFFFFFFFFFFFFFF0000
  | .tick => 0xFFFFFFFFFFFFFFFFFFFFFFFFFFFFFFFFFF00
  | .advance => 0xFFFFFFFFFFFFFFFFFFFFFFFFFFFFFFFFFF00
  | .schedule => 0x00000000000000000000000000000000FF00
  | .sleep => 0xFFFFFFFFFFFFFFFF0000000000000000FF00
  | .uptime => 0xFFFFFFFFFFFFFFFFFFFFFFFFFFFFFFFFFF00
  | .format => 0xFFFFFFFFFFFFFFFF0000000000000000FF00
  | .kbdIntake => 0xFFFFFFFFFFFFFFFFFFFFFFFFFFFFFFFFFF00
  | .kbdDecode => 0xFFFFFFFFFFFFFFFFFFFFFFFFFFFFFFFF0000
  | .kbdLedWrite => 0xFFFFFFFFFFFFFFFFFFFFFFFFFFFFFFFFFF00
  | .rbPush => 0xFFFFFFFFFFFFFFFFFFFFFFFFFFFF0000FF00
  | .rbPop => 0xFFFFFFFFFFFFFFFFFFFFFFFFFFFFFFFFFF00

/-- The fields of a record: OP [7:0], A [15:8], B [79:16], C [143:80] (R130). -/
def Request.ofWord (w : RequestWord) : Request :=
  { op := w.extractLsb' 0 8, a := w.extractLsb' 8 8, b := w.extractLsb' 16 64, c := w.extractLsb' 80 64 }

/-- The record of the four fields, `C ‖ B ‖ A ‖ OP` with OP in bits [7:0] (R130, 95_test_vectors.md section 0). -/
def Request.toWord (r : Request) : RequestWord :=
  r.c ++ r.b ++ r.a ++ r.op

/-- The operands of an operation from the fields of its record (R131). -/
def Op.assemble (o : Op) (r : Request) : Instr :=
  match o with
  | .setGate => .setGate r.a r.b (r.c.setWidth 8)
  | .idtInit => .idtInit
  | .picRemap => .picRemap r.a (r.b.setWidth 8)
  | .picEoi => .picEoi r.a
  | .handle => .handle r.a
  | .tick => .tick
  | .advance => .advance
  | .schedule => .schedule r.b r.c
  | .sleep => .sleep r.b
  | .uptime => .uptime
  | .format => .format r.b
  | .kbdIntake => .kbdIntake
  | .kbdDecode => .kbdDecode r.a
  | .kbdLedWrite => .kbdLedWrite
  | .rbPush => .rbPush (r.b.setWidth 16)
  | .rbPop => .rbPop

/-- What the decoder reads from a record: a request, or why it is refused (R343). -/
inductive Decoded where
  | ok (i : Instr)
  /-- R132: the selector names no operation. -/
  | unknownOp
  /-- R130: a field the operation does not use is not zero. -/
  | nonzeroUnused (o : Op)
  deriving DecidableEq, Repr

/-- The decoder (R130 to R132). -/
def decode (w : RequestWord) : Decoded :=
  match Op.ofSelector (Request.ofWord w).op with
  | none => .unknownOp
  | some o => if w &&& o.mustBeZero = 0 then .ok (o.assemble (Request.ofWord w)) else .nonzeroUnused o

/-- The fields of a request's record (R130, R131). -/
def Instr.fields : Instr → Request
  | .setGate v h attr => { op := 0x01, a := v, b := h, c := attr.setWidth 64 }
  | .idtInit => { op := 0x02, a := 0, b := 0, c := 0 }
  | .picRemap o1 o2 => { op := 0x03, a := o1, b := o2.setWidth 64, c := 0 }
  | .picEoi line => { op := 0x04, a := line, b := 0, c := 0 }
  | .handle v => { op := 0x05, a := v, b := 0, c := 0 }
  | .tick => { op := 0x06, a := 0, b := 0, c := 0 }
  | .advance => { op := 0x07, a := 0, b := 0, c := 0 }
  | .schedule cb d => { op := 0x08, a := 0, b := cb, c := d }
  | .sleep ms => { op := 0x09, a := 0, b := ms, c := 0 }
  | .uptime => { op := 0x0A, a := 0, b := 0, c := 0 }
  | .format ms => { op := 0x0B, a := 0, b := ms, c := 0 }
  | .kbdIntake => { op := 0x0C, a := 0, b := 0, c := 0 }
  | .kbdDecode b => { op := 0x0D, a := b, b := 0, c := 0 }
  | .kbdLedWrite => { op := 0x0E, a := 0, b := 0, c := 0 }
  | .rbPush e => { op := 0x0F, a := 0, b := e.setWidth 64, c := 0 }
  | .rbPop => { op := 0x10, a := 0, b := 0, c := 0 }

/-- The encoder: the record of a request (R130, R135). -/
def encode (i : Instr) : RequestWord := i.fields.toWord

/-- The host's table word: the record whose low `nbits` bits are those of `w` and whose other bits are 0. The record is
one 144-bit word with bit 0 the least significant (R130). -/
def tableWord (nbits w : Nat) : RequestWord := BitVec.ofNat 144 (w % 2 ^ nbits)

/-- The instruction the decoder reads from a table word. -/
def decodeTableWord (nbits w : Nat) : Option Instr :=
  match decode (tableWord nbits w) with
  | .ok i => some i
  | .unknownOp => none
  | .nonzeroUnused _ => none

end Sys2Proof
end

