-- ==== Sys2Proof/Machine/State.lean ====
section
/-! DEFINITION. The state of the block and of the environment it reads and writes (10_state.md), as plain data; the faults
and refusals; the state after reset (70_reset_and_hazards.md R380). -/

namespace Sys2Proof.Machine

open Sys2Proof

/-- The model faults of R342. Each is recorded in `State.faults` where it is raised, and stops the run there; the next
`step` answers it as the host's fault outcome (log 13: safe, the spec gives a run that has left the model no meaning). -/
inductive Fault where
  /-- A delivery while `in_irq` is true. Raised by delivery check 1 (R348), and by every delivery that lands inside
  interrupt context (R202, R355). Safe. -/
  | reentry
  /-- A delivery before IDT_INIT has loaded the table pointer. Raised by delivery check 2 (R348, R382). Safe. -/
  | noIdt
  /-- A delivery of v while SET_GATE(v) is under way. Raised by delivery check 3 (R348, R392). Safe. -/
  | gateTear
  /-- A delivery through a slot beyond the limit, or whose attribute or selector is not the stub gate's. Raised by
  delivery check 4 (R348, R113). Safe. -/
  | unwiredVector
  /-- A delivery through a gate whose handler is none of STUB[0..47]. Raised by delivery check 5 (R348, R165). Safe. -/
  | unknownStub
  /-- A delivery that will run ADVANCE while a main-context SCHEDULE is in progress. Raised by delivery check 6 (R348,
  R390). Safe. -/
  | timeoutRace
  /-- PIC_REMAP with an offset below 32 (R181). Raised by PIC_REMAP. Safe. -/
  | offsetBelow32
  /-- IDT_INIT or PIC_REMAP with `cpu.if` true (R161, R181). Raised by them. Safe. -/
  | liveInit
  deriving DecidableEq, Repr

/-- The host's refusals: a step to which the model gives no meaning. -/
inductive Refusal where
  /-- The instruction has no meaning in the model yet. No arm of `exec` answers it. Safe. -/
  | notModelled (mnemonic : String)
  /-- R80, R343: the configuration is refused as a whole before the first request. Raised by `step`. Safe. -/
  | configOverlap
  deriving DecidableEq, Repr

/-- The refusals of requests (R343). A refused request changes nothing but the `refused` mark and its reason (log 14). -/
inductive Refuse where
  | unknownOp
  | wrongContext
  | nonzeroUnused
  | configOverlap
  | callbackEffect
  deriving DecidableEq, Repr

/-- Memory: (address, byte) pairs, addresses strictly rising, no entry equal to what an unlisted address reads as. -/
abbrev Memory := List Host.Cell

/-- R36: the offsets PIC_REMAP recorded. -/
structure Remap where
  off1 : Byte
  off2 : Byte
  deriving DecidableEq, Repr

/-- R39: a timeout entry. -/
structure Timeout where
  cb : CallbackId
  target : Word64
  active : Bool
  deriving DecidableEq, Repr

/-- R41 to R44: the decoder's flags and the PrintScreen frame. `frameLen` is the number of bytes accumulated. -/
structure Decoder where
  shift : Bool
  ctrl : Bool
  alt : Bool
  caps : Bool
  num : Bool
  scroll : Bool
  ext : Bool
  pause : Bool
  frame : Vector Byte 4
  frameLen : Fin 4
  deriving DecidableEq, Repr

/-- R46: the event ring. -/
structure EventRing where
  buf : Vector Event 256
  head : Byte
  tail : Byte
  deriving DecidableEq, Repr

/-- R48: the CPU's interrupt-table register. -/
structure Idtr where
  limit : Word16
  base : Word64
  deriving DecidableEq, Repr

/-- R48, R49, R352: the CPU state the block reads or writes; `ifl` is `cpu.if`, `savedIf` the `cpu.if` an entry saves. -/
structure Cpu where
  idtr : Idtr
  idtLoaded : Bool
  ifl : Bool
  savedIf : Bool
  deriving DecidableEq, Repr

/-- R50, R356: the registers of one interrupt controller. -/
structure Pic where
  imr : Byte
  irr : Byte
  isr : Byte
  vbase : Byte
  initStep : Fin 5
  needIcw4 : Bool
  icw3 : Byte
  icw4 : Byte
  deriving DecidableEq, Repr

/-- R51, R351, R380: the keyboard controller and keyboard. `out` is the byte at KBD_DATA, `status` what the environment
has drawn for the status bits other than the busy bit (log 36), `busy` the busy bit's future, `ledPending` that the LED
command has come and its mask has not, `leds` the lamps (bit 0 scroll, bit 1 num, bit 2 caps). -/
structure Kbc where
  out : Option Byte
  status : Byte
  busy : Busy
  ledPending : Bool
  leds : BitVec 3
  deriving DecidableEq, Repr

/-- R123: the kind of a diagnostic report. -/
inductive ReportKind where
  | exception
  | unexpected
  deriving DecidableEq, Repr

/-- The interface events of R12 and R13 that a run's observation records (R205). -/
inductive IoEvent where
  | portRead (p : Port) (v : Byte)
  | portWrite (p : Port) (v : Byte)
  | report (kind : ReportKind) (v : Byte)
  | invoke (cb : CallbackId)
  deriving DecidableEq, Repr

/-- The value a request returns to its caller: UPTIME (R240), FORMAT (R241), RB_POP (R323). -/
inductive Ret where
  | none
  | ticks (v : Word64)
  | time (hrs min sec ms : Nat)
  | event (e : Event)
  deriving DecidableEq, Repr

/-- Where EXC_RESUME sends main context when it is not past the reported instruction (R347, log 22): back to the
instruction that raises `v` and interrupts main context at `p`, or to another program. What main context was doing is
given up. -/
inductive Redirect where
  | raising (v : Byte) (p : MainPoint)
  | elsewhere (program : List Input)
  deriving DecidableEq, Repr

/-- An interrupt context that never returns (log 17): the status poll of KBD_LED_WRITE with a controller that stays busy
(R280, R282), a callback that does not return (R228), a SLEEP in interrupt context (R236, D28). -/
inductive Hang where
  | ledWait
  | callback (cb : CallbackId)
  | sleep
  deriving DecidableEq, Repr

/-- The machine. The fields from `refusals` on are the model's own (INVENTORY.md, '## State'). -/
structure State where
  /-- The OPEN parameters (R6); no operation writes them. -/
  cfg : Config
  /-- The data address space (R80): `idt` (R33) and `idtp` (R34) live in it. -/
  mem : Memory
  /-- R35. -/
  gateBusy : Option Byte
  /-- R36. -/
  remap : Option Remap
  /-- R37. -/
  inIrq : Bool
  /-- R38. -/
  ticks : Word64
  /-- R39. -/
  tmo : Vector Timeout 16
  /-- R40. -/
  schedBusy : Bool
  /-- R41 to R44. -/
  dec : Decoder
  /-- R46. -/
  rb : EventRing
  /-- R47. -/
  faults : List Fault
  /-- R47. -/
  refused : Bool
  /-- R48, R49, R352. -/
  cpu : Cpu
  /-- R50, the primary controller. -/
  pic1 : Pic
  /-- R50, the secondary controller. -/
  pic2 : Pic
  /-- R51. -/
  kbc : Kbc
  /-- Why requests were refused, newest first (R344). -/
  refusals : List Refuse
  /-- The event history of the observation (R205), newest first. -/
  history : List IoEvent
  /-- The last value a request returned. -/
  ret : Ret
  /-- The context the running code is in (R131). -/
  ctx : Context
  /-- Where main context stands. -/
  main : MainCtl
  /-- An interrupt context that never returns. -/
  hang : Option Hang
  /-- What callbacks do when invoked (R136 `cb`), latest first. -/
  cbs : List (CallbackId × CallbackText)
  /-- What the outside does next. -/
  inputs : List Input
  /-- The batches of stimuli for the next step boundaries of what is running. -/
  script : List (List Stimulus)
  /-- The request in progress, part of the interrupted main-context state (R347). -/
  running : Option Instr
  /-- How many of its step boundaries have passed. -/
  passed : Nat
  /-- Where EXC_RESUME sends main context, until the step that reported the exception ends. -/
  redirect : Option Redirect
  /-- The counter free values are applied to. -/
  freeCount : Nat
  deriving DecidableEq, Repr

/-- The elements R55 and R380 call unspecified at reset, "a draw": reset takes them as an argument. -/
structure Draw where
  mem : Memory
  slots : Vector (CallbackId × Word64) 16
  frame : Vector Byte 4
  buf : Vector Event 256
  idtr : Idtr
  savedIf : Bool
  imr1 : Byte
  imr2 : Byte
  irr1 : Byte
  irr2 : Byte
  vbase1 : Byte
  vbase2 : Byte
  needIcw4 : Bool × Bool
  icw3 : Byte × Byte
  icw4 : Byte × Byte
  kbc : Kbc
  deriving DecidableEq, Repr

/-- R380: the reset state, for a configuration and a draw. -/
def State.resetWith (c : Config) (d : Draw) : State where
  cfg := c
  mem := d.mem
  gateBusy := none
  remap := none
  inIrq := false
  ticks := 0
  tmo := ⟨(d.slots.toList.map fun x => { cb := x.1, target := x.2, active := false }).toArray, by simp⟩
  schedBusy := false
  dec :=
    { shift := false, ctrl := false, alt := false, caps := false, num := false, scroll := false,
      ext := false, pause := false, frame := d.frame, frameLen := 0 }
  rb := { buf := d.buf, head := 0, tail := 0 }
  faults := []
  refused := false
  cpu := { idtr := d.idtr, idtLoaded := false, ifl := false, savedIf := d.savedIf }
  pic1 :=
    { imr := d.imr1, irr := d.irr1, isr := 0, vbase := d.vbase1, initStep := 0,
      needIcw4 := d.needIcw4.1, icw3 := d.icw3.1, icw4 := d.icw4.1 }
  pic2 :=
    { imr := d.imr2, irr := d.irr2, isr := 0, vbase := d.vbase2, initStep := 0,
      needIcw4 := d.needIcw4.2, icw3 := d.icw3.2, icw4 := d.icw4.2 }
  kbc := d.kbc
  refusals := []
  history := []
  ret := .none
  ctx := .main
  main := .idle
  hang := none
  cbs := []
  inputs := []
  script := []
  running := none
  passed := 0
  redirect := none
  freeCount := 0

/-- DESIGN CHOICE (log 5): configuration C0 of 95_test_vectors.md section 0, the values of the OPEN parameters at reset. -/
def Config.c0 : Config where
  idtBase := 0x0000000000105000
  idtpAddr := 0x0000000000104FF0
  stub := ⟨((List.range 48).map fun v => 0x0000000000101000 + 16 * BitVec.ofNat 64 v).toArray, by simp⟩
  callbackRefs := []
  excResume := []

/-- DESIGN CHOICE (log 1 to 4, 27): the draw at reset. The masks 0xFF and the status 0x00 are those of configuration C0;
the spec gives the others no value, and the model takes zero, and one pending byte 0x00 at KBD_DATA. -/
def Draw.zero : Draw where
  mem := []
  slots := Vector.replicate 16 (0, 0)
  frame := Vector.replicate 4 0
  buf := Vector.replicate 256 0
  idtr := { limit := 0, base := 0 }
  savedIf := false
  imr1 := 0xFF
  imr2 := 0xFF
  irr1 := 0
  irr2 := 0
  vbase1 := 0
  vbase2 := 0
  needIcw4 := (false, false)
  icw3 := (0, 0)
  icw4 := (0, 0)
  kbc := { out := some 0, status := 0, busy := .reads 0, ledPending := false, leds := 0 }

/-- The machine right after reset (R380), under configuration C0 and the draw the log names. -/
def State.reset : State := State.resetWith Config.c0 Draw.zero

end Sys2Proof.Machine
end

