-- ==== Sys2Proof/Machine/Params.lean ====
section
/-! DEFINITION. The parameter values of R6: those the source fixes, and the defaults marked "gk" (PRESUMED, log 6: taken from
the PC platform; the spec names each in 93_implementation_defined.md part 2). -/

namespace Sys2Proof.Machine

open Sys2Proof

/-- KERNEL_CS (gk, D16). -/
abbrev kernelCs : Word16 := 0x0008
/-- GATE_ATTR_INT (gk, D16, R112). -/
abbrev gateAttrInt : Byte := 0x8E
/-- IST_VALUE (source). -/
abbrev istValue : Byte := 0
/-- IDT_LIMIT = 256 * 16 - 1 (R6, R161). -/
abbrev idtLimit : Word16 := 0x0FFF

/-- PIC1_CMD (gk, D12). -/
abbrev pic1Cmd : Port := 0x0020
/-- PIC1_DATA (gk, D12). -/
abbrev pic1Data : Port := 0x0021
/-- PIC2_CMD (gk, D12). -/
abbrev pic2Cmd : Port := 0x00A0
/-- PIC2_DATA (gk, D12). -/
abbrev pic2Data : Port := 0x00A1
/-- KBD_DATA (gk, D12). -/
abbrev kbdData : Port := 0x0060
/-- KBD_STATUS (gk, D12). -/
abbrev kbdStatus : Port := 0x0064

/-- ICW1 (gk, D13, R116). -/
abbrev icw1 : Byte := 0x11
/-- ICW3_PRI (gk, D13, R116). -/
abbrev icw3Pri : Byte := 0x04
/-- ICW3_SEC (gk, D13, R116). -/
abbrev icw3Sec : Byte := 0x02
/-- ICW4 (gk, D13, R116). -/
abbrev icw4 : Byte := 0x01
/-- EOI_CMD (gk, D13, R117). -/
abbrev eoiCmd : Byte := 0x20
/-- FORCE_UNMASK_PRI: lines 0 and 1 (source, R6, R128). -/
abbrev forceUnmaskPri : Byte := 0x03

/-- OFFSET1, the boot's primary offset (D15). -/
abbrev offset1 : Byte := 0x20
/-- OFFSET2, the boot's secondary offset (D15). -/
abbrev offset2 : Byte := 0x28

/-- KBD_IBF_BIT as a mask (gk, D41): bit 1 of the status byte. -/
abbrev kbdIbfMask : Byte := 0x02
/-- LED_CMD (gk, D41, R124). -/
abbrev ledCmd : Byte := 0xED

/-- EV_NONE (D5, D6). -/
abbrev evNone : Event := 0x0000
/-- SC_EXT (source). -/
abbrev scExt : Byte := 0xE0
/-- SC_PAUSE (source). -/
abbrev scPause : Byte := 0xE1
/-- PRTSC_PRESS (source, §8): E0 2A E0 37. -/
abbrev prtscPress : Vector Byte 4 := #v[0xE0, 0x2A, 0xE0, 0x37]
/-- PRTSC_RELEASE (source, §8): E0 B7 E0 AA. -/
abbrev prtscRelease : Vector Byte 4 := #v[0xE0, 0xB7, 0xE0, 0xAA]

/-- The timer's vector, IRQ_VEC_LO (source, R348 check 6). -/
abbrev timerVector : Byte := 32

/-- The slots of the timeout table, in index order (R226, R230). -/
def slots : List (Fin 16) := [0, 1, 2, 3, 4, 5, 6, 7, 8, 9, 10, 11, 12, 13, 14, 15]

/-- The number R342 gives each fault. -/
def Fault.code : Fault → Byte
  | .reentry => 0x01
  | .noIdt => 0x02
  | .gateTear => 0x03
  | .unwiredVector => 0x04
  | .unknownStub => 0x05
  | .timeoutRace => 0x06
  | .offsetBelow32 => 0x07
  | .liveInit => 0x08

/-- The number R343 gives each refusal. -/
def Refuse.code : Refuse → Byte
  | .unknownOp => 0x81
  | .wrongContext => 0x82
  | .nonzeroUnused => 0x83
  | .configOverlap => 0x84
  | .callbackEffect => 0x85

end Sys2Proof.Machine
end

