-- ==== Sys2Proof/Machine/Exceptions.lean ====
section
/-! DEFINITION. The x86-64 exception vectors of R341: name, class and whether the CPU pushes an error code. The spec gives
them "for the reader": the block treats all 32 alike (R203), and the code is neither passed nor reported (R346). Only the
NMI's number is used (R355, R358). -/

namespace Sys2Proof.Machine

open Sys2Proof

/-- The class column of R341. -/
inductive ExceptionClass where
  | fault
  | trap
  | faultOrTrap
  | interrupt
  | abort
  /-- No class is given (R341 "–"). -/
  | none
  deriving DecidableEq, Repr

/-- One row of R341. -/
structure ExceptionRow where
  mnemonic : String
  cls : ExceptionClass
  errorCode : Bool
  deriving DecidableEq, Repr

/-- The vectors 0 to 31, in order (R341). -/
def exceptionRows : List ExceptionRow :=
  [⟨"#DE", .fault, false⟩, ⟨"#DB", .faultOrTrap, false⟩, ⟨"NMI", .interrupt, false⟩, ⟨"#BP", .trap, false⟩,
   ⟨"#OF", .trap, false⟩, ⟨"#BR", .fault, false⟩, ⟨"#UD", .fault, false⟩, ⟨"#NM", .fault, false⟩,
   ⟨"#DF", .abort, true⟩, ⟨"-", .fault, false⟩, ⟨"#TS", .fault, true⟩, ⟨"#NP", .fault, true⟩,
   ⟨"#SS", .fault, true⟩, ⟨"#GP", .fault, true⟩, ⟨"#PF", .fault, true⟩, ⟨"-", .none, false⟩,
   ⟨"#MF", .fault, false⟩, ⟨"#AC", .fault, true⟩, ⟨"#MC", .abort, false⟩, ⟨"#XM", .fault, false⟩,
   ⟨"#VE", .fault, false⟩, ⟨"#CP", .fault, true⟩, ⟨"-", .none, false⟩, ⟨"-", .none, false⟩,
   ⟨"-", .none, false⟩, ⟨"-", .none, false⟩, ⟨"-", .none, false⟩, ⟨"-", .none, false⟩,
   ⟨"#HV", .none, false⟩, ⟨"#VC", .fault, true⟩, ⟨"#SX", .fault, true⟩, ⟨"-", .none, false⟩]

/-- R341, R346: the CPU pushes an error code for this vector; removing it is the stub's work (R164). -/
def pushesErrorCode (v : Byte) : Bool := ((exceptionRows[v.toNat]?).map ExceptionRow.errorCode).getD false

/-- R341, R355: the non-maskable interrupt's vector. -/
abbrev nmiVector : Byte := 2

end Sys2Proof.Machine
end

