-- ==== Sys2Proof/Machine/Tables.lean ====
section
/-! DEFINITION. The key codes (R121) and the decoder's tables (R267 to R269, R290 to R293). Every scancode value and every
table entry is a default marked "gk" in R6 (PRESUMED, log 6), but for the names at 0x48 and 0x4D of the extended table. -/

namespace Sys2Proof.Machine

open Sys2Proof

/-- KEY_UP (arrow, R121). -/
abbrev keyUp : Event := 0x0100
/-- KEY_DOWN (arrow, R121). -/
abbrev keyDown : Event := 0x0101
/-- KEY_LEFT (arrow, R121). -/
abbrev keyLeft : Event := 0x0102
/-- KEY_RIGHT (arrow, R121). -/
abbrev keyRight : Event := 0x0103
/-- KEY_HOME (navigation, R121). -/
abbrev keyHome : Event := 0x0104
/-- KEY_END (navigation, R121). -/
abbrev keyEnd : Event := 0x0105
/-- KEY_PGUP (navigation, R121). -/
abbrev keyPgup : Event := 0x0106
/-- KEY_PGDN (navigation, R121). -/
abbrev keyPgdn : Event := 0x0107
/-- KEY_INSERT (navigation, R121). -/
abbrev keyInsert : Event := 0x0108
/-- KEY_DELETE (navigation, R121). -/
abbrev keyDelete : Event := 0x0109
/-- KEY_F1 (function, R121). -/
abbrev keyF1 : Event := 0x010A
/-- KEY_F2 (function, R121). -/
abbrev keyF2 : Event := 0x010B
/-- KEY_F3 (function, R121). -/
abbrev keyF3 : Event := 0x010C
/-- KEY_F4 (function, R121). -/
abbrev keyF4 : Event := 0x010D
/-- KEY_F5 (function, R121). -/
abbrev keyF5 : Event := 0x010E
/-- KEY_F6 (function, R121). -/
abbrev keyF6 : Event := 0x010F
/-- KEY_F7 (function, R121). -/
abbrev keyF7 : Event := 0x0110
/-- KEY_F8 (function, R121). -/
abbrev keyF8 : Event := 0x0111
/-- KEY_F9 (function, R121). -/
abbrev keyF9 : Event := 0x0112
/-- KEY_F10 (function, R121). -/
abbrev keyF10 : Event := 0x0113
/-- KEY_F11 (function, R121). -/
abbrev keyF11 : Event := 0x0114
/-- KEY_F12 (function, R121). -/
abbrev keyF12 : Event := 0x0115
/-- KEY_PRTSCR (function, R121). -/
abbrev keyPrtscr : Event := 0x0116
/-- KEY_PAUSE (function, R121). -/
abbrev keyPause : Event := 0x0117
/-- KEY_SYSRQ (function, R121). -/
abbrev keySysrq : Event := 0x0118
/-- KEY_LGUI (modifier-adjacent, R121). -/
abbrev keyLgui : Event := 0x0119
/-- KEY_RGUI (modifier-adjacent, R121). -/
abbrev keyRgui : Event := 0x011A
/-- KEY_MENU (modifier-adjacent, R121). -/
abbrev keyMenu : Event := 0x011B
/-- KEY_MEDIA_PREV (media, R121). -/
abbrev keyMediaPrev : Event := 0x011C
/-- KEY_MEDIA_NEXT (media, R121). -/
abbrev keyMediaNext : Event := 0x011D
/-- KEY_MUTE (media, R121). -/
abbrev keyMute : Event := 0x011E
/-- KEY_CALC (media, R121). -/
abbrev keyCalc : Event := 0x011F
/-- KEY_PLAY_PAUSE (media, R121). -/
abbrev keyPlayPause : Event := 0x0120
/-- KEY_MEDIA_STOP (media, R121). -/
abbrev keyMediaStop : Event := 0x0121
/-- KEY_VOL_DOWN (media, R121). -/
abbrev keyVolDown : Event := 0x0122
/-- KEY_VOL_UP (media, R121). -/
abbrev keyVolUp : Event := 0x0123
/-- KEY_WWW_HOME (media, R121). -/
abbrev keyWwwHome : Event := 0x0124
/-- KEY_POWER (media, R121). -/
abbrev keyPower : Event := 0x0125
/-- KEY_SLEEP (media, R121). -/
abbrev keySleep : Event := 0x0126
/-- KEY_WAKE (media, R121). -/
abbrev keyWake : Event := 0x0127

/-- T_UNSHIFT, codes 0x00 to 0x0F (R290). -/
def tUnshift00 : List Event :=
  [0, 0x1B, 0x31, 0x32, 0x33, 0x34, 0x35, 0x36, 0x37, 0x38, 0x39, 0x30, 0x2D, 0x3D, 0x08, 0x09]
/-- T_UNSHIFT, codes 0x10 to 0x1F (R290). -/
def tUnshift10 : List Event :=
  [0x71, 0x77, 0x65, 0x72, 0x74, 0x79, 0x75, 0x69, 0x6F, 0x70, 0x5B, 0x5D, 0x0A, 0, 0x61, 0x73]
/-- T_UNSHIFT, codes 0x20 to 0x2F (R290). -/
def tUnshift20 : List Event :=
  [0x64, 0x66, 0x67, 0x68, 0x6A, 0x6B, 0x6C, 0x3B, 0x27, 0x60, 0, 0x5C, 0x7A, 0x78, 0x63, 0x76]
/-- T_UNSHIFT, codes 0x30 to 0x3F (R290). -/
def tUnshift30 : List Event :=
  [0x62, 0x6E, 0x6D, 0x2C, 0x2E, 0x2F, 0, 0x2A, 0, 0x20, 0, 0, 0, 0, 0, 0]
/-- T_UNSHIFT, 128 entries indexed by the 7-bit code; the entries from 0x40 on are all 0 (R290, D43). -/
def tUnshift : List Event :=
  tUnshift00 ++ tUnshift10 ++ tUnshift20 ++ tUnshift30 ++ List.replicate 64 0

/-- T_SHIFT, codes 0x00 to 0x0F (R290). -/
def tShift00 : List Event :=
  [0, 0x1B, 0x21, 0x40, 0x23, 0x24, 0x25, 0x5E, 0x26, 0x2A, 0x28, 0x29, 0x5F, 0x2B, 0x08, 0x09]
/-- T_SHIFT, codes 0x10 to 0x1F (R290). -/
def tShift10 : List Event :=
  [0x51, 0x57, 0x45, 0x52, 0x54, 0x59, 0x55, 0x49, 0x4F, 0x50, 0x7B, 0x7D, 0x0A, 0, 0x41, 0x53]
/-- T_SHIFT, codes 0x20 to 0x2F (R290). -/
def tShift20 : List Event :=
  [0x44, 0x46, 0x47, 0x48, 0x4A, 0x4B, 0x4C, 0x3A, 0x22, 0x7E, 0, 0x7C, 0x5A, 0x58, 0x43, 0x56]
/-- T_SHIFT, codes 0x30 to 0x3F (R290). -/
def tShift30 : List Event :=
  [0x42, 0x4E, 0x4D, 0x3C, 0x3E, 0x3F, 0, 0x2A, 0, 0x20, 0, 0, 0, 0, 0, 0]
/-- T_SHIFT, 128 entries indexed by the 7-bit code; the entries from 0x40 on are all 0 (R290, D43). -/
def tShift : List Event :=
  tShift00 ++ tShift10 ++ tShift20 ++ tShift30 ++ List.replicate 64 0

/-- An entry of a main table. -/
def tableEntry (t : List Event) (code : BitVec 7) : Event := t.getD code.toNat evNone

/-- T_EXT, indexed by the code after 0xE0; a code that is not listed has entry 0 (R291, D44). -/
def tExt (code : BitVec 7) : Event :=
  match code.toNat with
  | 0x10 => keyMediaPrev
  | 0x19 => keyMediaNext
  | 0x1C => 0x0A
  | 0x20 => keyMute
  | 0x21 => keyCalc
  | 0x22 => keyPlayPause
  | 0x24 => keyMediaStop
  | 0x2E => keyVolDown
  | 0x30 => keyVolUp
  | 0x32 => keyWwwHome
  | 0x35 => 0x2F
  | 0x47 => keyHome
  | 0x48 => keyUp
  | 0x49 => keyPgup
  | 0x4B => keyLeft
  | 0x4D => keyRight
  | 0x4F => keyEnd
  | 0x50 => keyDown
  | 0x51 => keyPgdn
  | 0x52 => keyInsert
  | 0x53 => keyDelete
  | 0x5B => keyLgui
  | 0x5C => keyRgui
  | 0x5D => keyMenu
  | 0x5E => keyPower
  | 0x5F => keySleep
  | 0x63 => keyWake
  | _ => evNone

/-- FN: the function-key event of a code in FN_CODES (R292, D38). -/
def fnEvent (code : BitVec 7) : Option Event :=
  match code.toNat with
  | 0x3B => some keyF1
  | 0x3C => some keyF2
  | 0x3D => some keyF3
  | 0x3E => some keyF4
  | 0x3F => some keyF5
  | 0x40 => some keyF6
  | 0x41 => some keyF7
  | 0x42 => some keyF8
  | 0x43 => some keyF9
  | 0x44 => some keyF10
  | 0x57 => some keyF11
  | 0x58 => some keyF12
  | _ => none

/-- T_NP_ON and T_NP_OFF, as a pair, of a code in NUMPAD_CODES (R293, D42). -/
def numpadEvents (code : BitVec 7) : Option (Event × Event) :=
  match code.toNat with
  | 0x47 => some (0x37, keyHome)
  | 0x48 => some (0x38, keyUp)
  | 0x49 => some (0x39, keyPgup)
  | 0x4A => some (0x2D, 0x2D)
  | 0x4B => some (0x34, keyLeft)
  | 0x4C => some (0x35, 0)
  | 0x4D => some (0x36, keyRight)
  | 0x4E => some (0x2B, 0x2B)
  | 0x4F => some (0x31, keyEnd)
  | 0x50 => some (0x32, keyDown)
  | 0x51 => some (0x33, keyPgdn)
  | 0x52 => some (0x30, keyInsert)
  | 0x53 => some (0x2E, keyDelete)
  | _ => none

/-- ALIAS: the event of an aliased code (R267, D39). -/
def aliasEvent (code : BitVec 7) : Option Event :=
  match code.toNat with
  | 0x54 => some keySysrq
  | 0x59 => some 0x003D
  | _ => none

/-- The sticky modifiers (R268). -/
inductive Modifier where
  | shift
  | ctrl
  | alt
  deriving DecidableEq, Repr

/-- MOD_SHIFT, MOD_CTRL, MOD_ALT: the modifier of a code (R268, D40). -/
def modifierOf (code : BitVec 7) : Option Modifier :=
  match code.toNat with
  | 0x2A => some .shift
  | 0x36 => some .shift
  | 0x1D => some .ctrl
  | 0x38 => some .alt
  | _ => none

/-- The lock keys (R269). -/
inductive Lock where
  | caps
  | num
  | scroll
  deriving DecidableEq, Repr

/-- LOCKS: the lock of a code (R269, D40). -/
def lockOf (code : BitVec 7) : Option Lock :=
  match code.toNat with
  | 0x3A => some .caps
  | 0x45 => some .num
  | 0x46 => some .scroll
  | _ => none

end Sys2Proof.Machine
end

