-- ==== Sys2Proof/Machine/Operands.lean ====
section
/-! DEFINITION. Operand forms: the contexts that may issue each request (R131), the handler address split (R125, R126), the
gate's place and fields (R33, R111), the byte forms of memory values (R84), the mask and line operands (R128, R129), the
scancode's fields (R127), the time split (R241) and the event ranges (R122). -/

namespace Sys2Proof.Machine

open Sys2Proof

/-- The "contexts" column of R131: who may issue the operation. The condition "with cpu.if = false" of IDT_INIT and
PIC_REMAP is their own `require` (R161, R181), and SLEEP is admitted in I, where it is stuck (R236). -/
def opAdmits (o : Op) (c : Context) : Bool :=
  match o, c with
  | .setGate, .main => true
  | .setGate, .interrupt => true
  | .idtInit, .main => true
  | .picRemap, .main => true
  | .picEoi, .interrupt => true
  | .handle, .environment => true
  | .tick, .interrupt => true
  | .advance, .interrupt => true
  | .schedule, .main => true
  | .schedule, .callback => true
  | .sleep, .main => true
  | .sleep, .interrupt => true
  | .uptime, .main => true
  | .uptime, .interrupt => true
  | .uptime, .callback => true
  | .format, .main => true
  | .format, .interrupt => true
  | .format, .callback => true
  | .kbdIntake, .interrupt => true
  | .kbdDecode, .interrupt => true
  | .kbdLedWrite, .interrupt => true
  | .rbPush, .interrupt => true
  | .rbPop, .main => true
  | _, _ => false

/-- A context that R131 lists for the operation: the one the host's table word is issued from (log 8). -/
def opIssuer (o : Op) : Context :=
  match o with
  | .setGate | .idtInit | .picRemap | .schedule | .sleep | .uptime | .format | .rbPop => .main
  | .picEoi | .tick | .advance | .kbdIntake | .kbdDecode | .kbdLedWrite | .rbPush => .interrupt
  | .handle => .environment

/-- The refusal of a request its context may not issue: CallbackEffect from a callback (R229), else WrongContext (R131). -/
def contextRefusal (c : Context) : Refuse :=
  if c = .callback then .callbackEffect else .wrongContext

/-- The `n` bytes of a value, least significant first (R84). -/
def leBytes : Nat → Nat → List Byte
  | 0, _ => []
  | n + 1, v => BitVec.ofNat 8 v :: leBytes n (v / 256)

/-- The value of bytes, least significant first (R84). -/
def leValue : List Byte → Nat
  | [] => 0
  | b :: bs => b.toNat + 256 * leValue bs

/-- The three address fields of a handler (R125): offset_lo, offset_mid, offset_hi. -/
def offsetLo (h : Word64) : BitVec 16 := h.extractLsb' 0 16
@[inherit_doc offsetLo] def offsetMid (h : Word64) : BitVec 16 := h.extractLsb' 16 16
@[inherit_doc offsetLo] def offsetHi (h : Word64) : BitVec 32 := h.extractLsb' 32 32

/-- The fields of a gate descriptor (R111). -/
structure Gate where
  offsetLo : BitVec 16
  selector : BitVec 16
  ist : Byte
  typeAttr : Byte
  offsetMid : BitVec 16
  offsetHi : BitVec 32
  reserved : BitVec 32
  deriving DecidableEq, Repr

/-- The address a descriptor points at (R126). -/
def gateHandler (g : Gate) : Word64 := g.offsetHi ++ g.offsetMid ++ g.offsetLo

/-- The address of slot `v` of a table at `base` (R33). -/
def slotAddr (base : Word64) (v : Byte) : Word64 := base + 16 * v.setWidth 64

/-- STUB[v] (R6). -/
def stubAddr (c : Config) (v : Nat) : Word64 := (c.stub[v]?).getD 0

/-- The lowest index with STUB[w] = h (R348 check 5). -/
def stubIndex (c : Config) (h : Word64) : Option Byte :=
  (c.stub.toList.findIdx? (· == h)).map (BitVec.ofNat 8)

/-- R129: the line of a hardware vector. -/
def lineOf (v : Byte) : Byte := v - 32

/-- R129, R185: the lines acknowledged at the secondary too. -/
def lineIsSecondary (line : Byte) : Bool := decide (8 ≤ line.toNat)

/-- R128: the primary mask PIC_REMAP writes back. -/
def unmaskTimerKbd (m1 : Byte) : Byte := m1 &&& ~~~forceUnmaskPri

/-- R127: the release flag of a scancode byte. -/
def scRelease (b : Byte) : Bool := b.getLsbD 7

/-- R127: the 7-bit code of a scancode byte. -/
def scCode (b : Byte) : BitVec 7 := b.setWidth 7

/-- R241: hours, minutes, seconds, milliseconds. -/
def timeOf (ms : Word64) : Ret :=
  let t := ms.toNat / 1000
  let m := t / 60
  .time (m / 60) (m % 60) (t % 60) (ms.toNat % 1000)

/-- R236: the ticks counted since `start`, modulo 2^64, are at least `ms`. -/
def sleepDone (start ms now : Word64) : Bool := decide (ms.toNat ≤ (now - start).toNat)

/-- R122: a printable event word. -/
def isPrintable (e : Event) : Bool := decide (0x0001 ≤ e.toNat ∧ e.toNat ≤ 0x007F)

/-- R122: a non-printable key code. -/
def isKeyCode (e : Event) : Bool := decide (0x0100 ≤ e.toNat ∧ e.toNat ≤ 0x0127)

/-- EXC_RESUME (R347): where main context continues after the report of the exception `v` that interrupted it at `p`. -/
def resumeAt (c : Config) (v : Byte) (p : MainPoint) : Resume :=
  match c.excResume.find? fun r => r.vector == v && r.point.all (· == p) with
  | some r => r.resume
  | none => .past

/-- CallbackId (R6, D27, log 7): the reference that the operand `cb` of SCHEDULE denotes. -/
def callbackRef (c : Config) (cb : Word64) : CallbackId :=
  match c.callbackRefs.lookup cb with
  | some r => r
  | none => cb.toNat

/-- What a callback does when invoked: the latest `cb` stimulus for it (R136), else a free value (log 18). -/
def callbackText (cbs : List (CallbackId × CallbackText)) (id : CallbackId) (n : Nat) : CallbackText :=
  match cbs.lookup id with
  | some t => t
  | none => Config.freeCallback id n

end Sys2Proof.Machine
end

