-- ==== Sys2Proof/Machine/Flags.lean ====
section
/-! DEFINITION. The decoder's flags (R52): their updates, the PrintScreen frame (R264), the table selector (R274), the LED
mask (R280) and the named-state view (R45). -/

namespace Sys2Proof.Machine

open Sys2Proof

/-- R262: after a pause byte `pause`, `ext` and the frame are clear; the sticky flags are kept. -/
def clearToIdle (d : Decoder) : Decoder := { d with pause := false, ext := false, frameLen := 0 }

/-- R264: whether the byte `b` is appended to the frame. -/
def frameTakes (b : Byte) (d : Decoder) : Bool := decide (d.frameLen ≠ 0) || b == scExt

/-- R264: the frame after the byte `b` reaches step 3. The fourth byte empties it. -/
def accumulate (b : Byte) (d : Decoder) : Decoder :=
  if frameTakes b d then
    { d with
      frame := d.frame.set d.frameLen b
      frameLen := if d.frameLen = 3 then 0 else d.frameLen + 1 }
  else d

/-- R264: the byte `b` completes the frame and the frame is the PrintScreen press. -/
def completesPress (b : Byte) (d : Decoder) : Bool :=
  decide (d.frameLen = 3) && d.frame.set 3 b == prtscPress

/-- R268: a modifier code sets its flag on press and clears it on release. -/
def setModifier (m : Modifier) (pressed : Bool) (d : Decoder) : Decoder :=
  match m with
  | .shift => { d with shift := pressed }
  | .ctrl => { d with ctrl := pressed }
  | .alt => { d with alt := pressed }

/-- R269: a lock code toggles its flag. -/
def toggleLock (l : Lock) (d : Decoder) : Decoder :=
  match l with
  | .caps => { d with caps := !d.caps }
  | .num => { d with num := !d.num }
  | .scroll => { d with scroll := !d.scroll }

/-- R274: T_SHIFT is used exactly when `shift xor caps`. -/
def usesShiftTable (d : Decoder) : Bool := d.shift ^^ d.caps

/-- R274: the main-table entry of a code. -/
def mainEvent (d : Decoder) (code : BitVec 7) : Event :=
  if usesShiftTable d then tableEntry tShift code else tableEntry tUnshift code

/-- R280 step 1: the LED mask of the lock flags. -/
def ledMask (d : Decoder) : Byte :=
  (if d.scroll then 1 else 0) ||| (if d.num then 2 else 0) ||| (if d.caps then 4 else 0)

/-- The source's names of the decoder's states (R45). -/
inductive DecoderView where
  | idle
  | extendedPrefix
  | pauseSequence
  | printScreenFrame
  deriving DecidableEq, Repr

/-- R45, C1: the named state, computed from the flags. -/
def decoderView (d : Decoder) : DecoderView :=
  if d.pause then .pauseSequence
  else if d.frameLen ≠ 0 then .printScreenFrame
  else if d.ext then .extendedPrefix
  else .idle

end Sys2Proof.Machine
end

