-- ==== Sys2Proof/Machine/Ops.lean ====
section
/-! DEFINITION. The shared operations: outcomes (R14), memory (R11), the controller pair (R349, R356), ports (R12, R51), the
environment's stimuli (R136), and TAKING AN INTERRUPT OR EXCEPTION, `deliverWith`, with its entry and its return (R348,
R352, R353). -/

namespace Sys2Proof.Machine

open Sys2Proof

/-! ### Outcomes (R14) -/

/-- The running code goes on: no fault is recorded, interrupt context has not hung, and EXC_RESUME has not sent main
context away from what it was doing (R347). -/
def State.live (s : State) : Bool := s.faults.isEmpty && s.hang.isNone && s.redirect.isNone

/-- Go on with `k` where the running code goes on; stay where it has stopped (R14: a fault "stops the agent"). -/
def State.andThen (s : State) (k : State → State) : State := if s.live then k s else s

/-- R14, R342: record a fault. -/
def State.raise (s : State) (f : Fault) : State := { s with faults := f :: s.faults }

/-- R343: refuse a request: the `refused` mark and its reason. -/
def State.refuse (s : State) (r : Refuse) : State := { s with refused := true, refusals := r :: s.refusals }

/-- R205: append an event to the history. -/
def State.log (s : State) (e : IoEvent) : State := { s with history := e :: s.history }

/-- A request in the running context: its body where R131 admits it, else the refusal (R131, R229). -/
def State.admitted (s : State) (o : Op) (body : State → State) : Host.Outcome State Fault Refusal :=
  if opAdmits o s.ctx then .next (body s) else .next (s.refuse (contextRefusal s.ctx))

/-! ### Memory (R11, R80, R84) -/

/-- What an unlisted address reads as (log 1). -/
def unlistedByte : Byte := 0

/-- One byte of memory. -/
def readByte : Memory → Nat → Byte
  | [], _ => unlistedByte
  | (a', b) :: m, a => if a' = a then b else readByte m a

/-- Write one byte, keeping the canonical form. -/
def writeByte : Memory → Nat → Byte → Memory
  | [], a, b => if b = unlistedByte then [] else [(a, b)]
  | (a', b') :: m, a, b =>
    if a < a' then (if b = unlistedByte then (a', b') :: m else (a, b) :: (a', b') :: m)
    else if a = a' then (if b = unlistedByte then m else (a, b) :: m)
    else (a', b') :: writeByte m a b

/-- The canonical form: addresses strictly rising and inside the 64-bit space, no entry equal to what an unlisted
address reads as. -/
def Memory.wf : Memory → Bool
  | [] => true
  | [(a, b)] => decide (a < 2 ^ 64) && b != unlistedByte
  | (a, b) :: (a', b') :: m => decide (a < a') && b != unlistedByte && Memory.wf ((a', b') :: m)

/-- Write bytes at successive addresses, modulo 2^64 (log 16). -/
def writeBytes : Memory → Word64 → List Byte → Memory
  | m, _, [] => m
  | m, a, b :: bs => writeBytes (writeByte m a.toNat b) (a + 1) bs

/-- Read `n` bytes at successive addresses, modulo 2^64. -/
def readBytes (m : Memory) : Word64 → Nat → List Byte
  | _, 0 => []
  | a, n + 1 => readByte m a.toNat :: readBytes m (a + 1) n

/-- MemWrite(addr, n, v) (R11). -/
def memWrite (m : Memory) (a : Word64) (n : Nat) (v : Nat) : Memory := writeBytes m a (leBytes n v)

/-- MemRead(addr, n) (R11). -/
def memRead (m : Memory) (a : Word64) (n : Nat) : Nat := leValue (readBytes m a n)

/-- SET_GATE step 2: the seven writes of a descriptor at `d` (R160, R111). -/
def writeGate (m : Memory) (d : Word64) (h : Word64) (attr : Byte) : Memory :=
  let m := memWrite m d 2 (offsetLo h).toNat
  let m := memWrite m (d + 2) 2 kernelCs.toNat
  let m := memWrite m (d + 4) 1 istValue.toNat
  let m := memWrite m (d + 5) 1 attr.toNat
  let m := memWrite m (d + 6) 2 (offsetMid h).toNat
  let m := memWrite m (d + 8) 4 (offsetHi h).toNat
  memWrite m (d + 12) 4 0

/-- The descriptor at `d` (R111, R348 check 4). -/
def readGate (m : Memory) (d : Word64) : Gate where
  offsetLo := BitVec.ofNat 16 (memRead m d 2)
  selector := BitVec.ofNat 16 (memRead m (d + 2) 2)
  ist := BitVec.ofNat 8 (memRead m (d + 4) 1)
  typeAttr := BitVec.ofNat 8 (memRead m (d + 5) 1)
  offsetMid := BitVec.ofNat 16 (memRead m (d + 6) 2)
  offsetHi := BitVec.ofNat 32 (memRead m (d + 8) 4)
  reserved := BitVec.ofNat 32 (memRead m (d + 12) 4)

/-- R162: LoadIdt(p). -/
def State.loadIdt (s : State) (p : Word64) : State :=
  { s with
    cpu :=
      { s.cpu with
        idtr := { limit := BitVec.ofNat 16 (memRead s.mem p 2), base := BitVec.ofNat 64 (memRead s.mem (p + 2) 8) }
        idtLoaded := true } }

/-! ### The controller pair (R356, R349) -/

/-- The lowest-numbered set bit cleared (R356, EOI). -/
def clearLowest (x : Byte) : Byte := x &&& (x - 1)

/-- PortWrite8(PICc_CMD, x) (R356). Commands the block never sends leave the device as it is (log 20). -/
def picCommand (p : Pic) (x : Byte) : Pic :=
  if x.getLsbD 4 then
    { p with initStep := 1, imr := 0, isr := 0, irr := 0, needIcw4 := x.getLsbD 0 }
  else if x = eoiCmd then { p with isr := clearLowest p.isr }
  else p

/-- PortWrite8(PICc_DATA, x) (R356). -/
def picData (p : Pic) (x : Byte) : Pic :=
  if p.initStep = 1 then { p with vbase := x, initStep := 2 }
  else if p.initStep = 2 then { p with icw3 := x, initStep := if p.needIcw4 then 3 else 0 }
  else if p.initStep = 3 then { p with icw4 := x, initStep := 0 }
  else if p.initStep = 0 then { p with imr := x }
  else p

/-- The bits 0 to `n`. -/
def bitsUpTo (n : Fin 8) : Byte := BitVec.ofNat 8 (2 ^ (n.val + 1) - 1)

/-- R349 steps 2 and 3: the request bit `n` of `requested` is ready at a controller. -/
def picReady (p : Pic) (requested : Byte) (n : Fin 8) : Bool :=
  requested.getLsbD n && !p.imr.getLsbD n && p.isr &&& bitsUpTo n == 0

/-- R349 step 4: the highest-priority (lowest-numbered) ready bit. -/
def picPick (p : Pic) (requested : Byte) : Option (Fin 8) :=
  ([0, 1, 2, 3, 4, 5, 6, 7] : List (Fin 8)).find? (picReady p requested)

/-- The bit `n` as a byte. -/
def bitMask (n : Fin 8) : Byte := BitVec.ofNat 8 (2 ^ n.val)

/-- R349 step 4: the request bit is cleared and the in-service bit set. -/
def picTake (p : Pic) (n : Fin 8) : Pic :=
  { p with irr := p.irr &&& ~~~bitMask n, isr := p.isr ||| bitMask n }

/-- R50, R349: the vector of bit `n`. -/
def picVector (p : Pic) (n : Fin 8) : Byte := (p.vbase &&& 0xF8) ||| BitVec.ofNat 8 n.val

/-- R349 step 1: a device raises line `l`. -/
def State.raiseLine (s : State) (l : Fin 16) : State :=
  if h : l.val < 8 then
    { s with pic1 := { s.pic1 with irr := s.pic1.irr ||| bitMask ⟨l.val, h⟩ } }
  else
    { s with pic2 := { s.pic2 with irr := s.pic2.irr ||| bitMask ⟨l.val - 8, by omega⟩ } }

/-- R349 steps 2 to 4: the pair's highest-priority ready request, as the vector and the state after the CPU has taken it;
none where no request is ready. Primary bit 2 is requested exactly while a secondary request is ready (steps 2, 3). -/
def State.acknowledge (s : State) : Option (Byte × State) :=
  let sec := picPick s.pic2 s.pic2.irr
  let requested := if sec.isSome then s.pic1.irr ||| bitMask 2 else s.pic1.irr &&& ~~~bitMask 2
  match picPick s.pic1 requested with
  | none => none
  | some n =>
    match n, sec with
    | 2, some m =>
      some (picVector s.pic2 m, { s with pic1 := picTake s.pic1 2, pic2 := picTake s.pic2 m })
    | n, _ => some (picVector s.pic1 n, { s with pic1 := picTake s.pic1 n })

/-! ### Ports (R12, R82, R89) -/

/-- The status byte the keyboard controller answers (R51): bit 1 is 1 while it is busy, the other bits are the
environment's draw (R12, log 36). -/
def kbcStatus (k : Kbc) : Byte :=
  match k.busy with
  | .reads 0 => k.status &&& ~~~kbdIbfMask
  | _ => k.status ||| kbdIbfMask

/-- The keyboard controller after a status read (R136 `kbc_busy`). -/
def kbcPolled (k : Kbc) : Kbc :=
  match k.busy with
  | .reads (n + 1) => { k with busy := .reads n }
  | _ => k

/-- The keyboard after a byte written to KBD_DATA (R124, R280, R394, log 25): the LED command, or the mask that follows
it. -/
def kbcReceive (k : Kbc) (x : Byte) : Kbc :=
  if x = ledCmd then { k with ledPending := true }
  else if k.ledPending then { k with ledPending := false, leds := x.setWidth 3 }
  else k

/-- R136 `kbc_busy n`. A controller that is stuck stays so (log 17). -/
def kbcSetBusy (k : Kbc) (n : Nat) : Kbc :=
  match k.busy with
  | .reads _ => { k with busy := .reads n }
  | .forever => k

/-- PortWrite8(p, v) (R12): the event, and the device's answer to it. -/
def State.portWrite (s : State) (p : Port) (v : Byte) : State :=
  let s := s.log (.portWrite p v)
  if p = pic1Cmd then { s with pic1 := picCommand s.pic1 v }
  else if p = pic1Data then { s with pic1 := picData s.pic1 v }
  else if p = pic2Cmd then { s with pic2 := picCommand s.pic2 v }
  else if p = pic2Data then { s with pic2 := picData s.pic2 v }
  else if p = kbdData then { s with kbc := kbcReceive s.kbc v }
  else s

/-- What a PortRead8(p) answers (R12, R51, R356). An answer no rule gives is a free value (log 19). -/
def State.portAnswer (s : State) (p : Port) : Byte :=
  if p = pic1Data then s.pic1.imr
  else if p = pic2Data then s.pic2.imr
  else if p = kbdStatus then kbcStatus s.kbc
  else if p = kbdData then
    match s.kbc.out with
    | some b => b
    | none => Config.portAnswer p s.freeCount
  else Config.portAnswer p s.freeCount

/-- The state after a PortRead8(p): the event, and the read's side effect (R89: KBD_DATA gives its byte up). -/
def State.portRead (s : State) (p : Port) : State :=
  let s' := s.log (.portRead p (s.portAnswer p))
  if p = pic1Data then s'
  else if p = pic2Data then s'
  else if p = kbdStatus then { s' with kbc := kbcPolled s.kbc }
  else if p = kbdData then
    match s.kbc.out with
    | some _ => { s' with kbc := { s.kbc with out := none } }
    | none => { s' with freeCount := s.freeCount + 1 }
  else { s' with freeCount := s.freeCount + 1 }

/-! ### Taking an interrupt or exception (R348, R352, R353) -/

/-- R353, R236: a main context that halted in SLEEP goes on to its check after any delivery. -/
def MainCtl.wake : MainCtl → MainCtl
  | .halted start ms => .sleepCheck start ms
  | m => m

/-- R352: Enter(v). `cpu.if` is saved and cleared; interrupt context runs. -/
def State.enter (s : State) : State :=
  { s with cpu := { s.cpu with savedIf := s.cpu.ifl, ifl := false }, ctx := .interrupt }

/-- R353: Return(). `cpu.if` is restored; main context continues. -/
def State.leave (s : State) : State :=
  { s with cpu := { s.cpu with ifl := s.cpu.savedIf }, ctx := .main, main := s.main.wake }

/-- R348 checks 1 to 6 for a delivery of `v`: the first failing check's fault, or the vector the stub passes. -/
def deliveryCheck (s : State) (v : Byte) : Except Fault Byte :=
  if s.inIrq then .error .reentry
  else if !s.cpu.idtLoaded then .error .noIdt
  else if s.gateBusy = some v then .error .gateTear
  else if s.cpu.idtr.limit.toNat < 16 * v.toNat + 15 then .error .unwiredVector
  else
    let g := readGate s.mem (slotAddr s.cpu.idtr.base v)
    if g.typeAttr ≠ gateAttrInt ∨ g.selector ≠ kernelCs then .error .unwiredVector
    else
      match stubIndex s.cfg (gateHandler g) with
      | none => .error .unknownStub
      | some w => if w = timerVector ∧ s.schedBusy then .error .timeoutRace else .ok w

/-- R348: Deliver(v), where `handle` is HANDLE: the checks; then Enter, the stub's call of HANDLE, and Return. -/
def deliverWith (handle : Byte → State → State) (v : Byte) (s : State) : State :=
  match deliveryCheck s v with
  | .error f => s.raise f
  | .ok w => (handle w s.enter).andThen State.leave

/-! ### The environment's stimuli (R136, R349) -/

/-- One stimulus, where `deliver` is what a delivery does. `cli` and `sti` clear and set `cpu.if` wherever they land (R49,
R136). A maskable vector is delivered only with `cpu.if` true (R348, log 12), and `take` delivers the ready request of
the controller pair (R349, log 10). -/
def stimulusWith (deliver : Byte → State → State) (x : Stimulus) (s : State) : State :=
  match x with
  | .cli => { s with cpu := { s.cpu with ifl := false } }
  | .sti => { s with cpu := { s.cpu with ifl := true } }
  | .irq l => s.raiseLine l
  | .take =>
    if s.cpu.ifl then
      match s.acknowledge with
      | some (v, s') => deliver v s'
      | none => s
    else s
  | .deliver v => if v.toNat ≤ 31 || s.cpu.ifl then deliver v s else s
  | .kbd b => { s with kbc := { s.kbc with out := some b } }
  | .kbcBusy n => { s with kbc := kbcSetBusy s.kbc n }
  | .kbcStuck => { s with kbc := { s.kbc with busy := .forever } }
  | .kbdStatus b => { s with kbc := { s.kbc with status := b } }
  | .mask m1 m2 => { s with pic1 := { s.pic1 with imr := m1 }, pic2 := { s.pic2 with imr := m2 } }
  | .cb id text => { s with cbs := (id, text) :: s.cbs }

/-- What of a batch has not landed waits for the next boundary (log 9). -/
def State.putBack (s : State) (xs : List Stimulus) : State :=
  match xs with
  | [] => s
  | x :: xs => { s with script := (x :: xs) :: s.script }

/-- A batch of stimuli, in order, as long as `goesOn` holds of the state. -/
def stimuliWith (goesOn : State → Bool) (deliver : Byte → State → State) : List Stimulus → State → State
  | [], s => s
  | x :: xs, s =>
    let t := stimulusWith deliver x s
    if goesOn t then stimuliWith goesOn deliver xs t else t.putBack xs

/-- R358 item 1: a delivery of an exception, synchronous with main context's instruction. -/
def isException (x : Stimulus) : Bool :=
  match x with
  | .deliver v => decide (v.toNat ≤ 31) && v != nmiVector
  | _ => false

/-- R358 item 2: a delivery of the non-maskable interrupt. -/
def isNmi (x : Stimulus) : Bool := x == .deliver nmiVector

/-- A delivery of a maskable interrupt. -/
def isMaskable (x : Stimulus) : Bool :=
  match x with
  | .take => true
  | .deliver v => decide (32 ≤ v.toNat)
  | _ => false

/-- The stimuli that `first` selects come before the first one that `later` selects. -/
def hoist (first later : Stimulus → Bool) (xs : List Stimulus) : List Stimulus :=
  xs.takeWhile (!later ·) ++ (xs.dropWhile (!later ·)).filter first ++ (xs.dropWhile (!later ·)).filter (!first ·)

/-- R358 items 1 and 2: the order in which main context's CPU meets what lands at one boundary: an exception before any
interrupt, the NMI before any maskable one (log 11). -/
def orderBatch (xs : List Stimulus) : List Stimulus :=
  hoist isNmi isMaskable
    (hoist isException (fun x => isNmi x || isMaskable x) xs)

/-- A delivery inside interrupt context (R202, R355): Reentry, whatever the vector. -/
def deliverNested (_v : Byte) (s : State) : State := s.raise .reentry

/-- A batch of stimuli inside interrupt context, in order, until a fault stops the run (R14, R355). A context that has hung
takes them too (R49, R136, R349, log 17). -/
def stimuliNested (batch : List Stimulus) (s : State) : State :=
  stimuliWith (fun t => t.faults.isEmpty) deliverNested batch s

/-- A step boundary inside interrupt context (R15, R381): the next batch of the script lands here (log 9). Devices may
raise lines, but nothing is delivered (R202, log 34). -/
def envI (s : State) : State :=
  match s.script with
  | [] => s
  | b :: bs => stimuliNested b { s with script := bs }

end Sys2Proof.Machine
end

