-- ==== Sys2Proof/Machine/RingOps.lean ====
section
/-! DEFINITION. The event ring's operations (45_ring.md): RB_PUSH, which interrupt context calls, and the queue view. -/

namespace Sys2Proof.Machine

open Sys2Proof

/-- R321 RB_PUSH(e). The element is written before the index that publishes it; a full ring drops the event. -/
def rbPushOp (e : Event) (s : State) : State :=
  let h := s.rb.head                                              -- step 1
  (envI s).andThen fun s =>
  let t := s.rb.tail                                              -- step 2
  (envI s).andThen fun s =>
  let n := h + 1                                                  -- step 3
  (envI s).andThen fun s =>
  if n = t then s                                                 -- step 4
  else
    (envI s).andThen fun s =>
    (envI { s with rb := { s.rb with buf := s.rb.buf.set h.toNat e h.isLt } }).andThen fun s =>     -- step 5
    { s with rb := { s.rb with head := n } }                      -- step 6

/-- The element `rb.buf[i]`. -/
def ringAt (r : EventRing) (i : Byte) : Event := r.buf[i.toNat]'i.isLt

/-- The events a ring holds, oldest first (R46, R322): `(head - tail) mod 256` of them, from `tail` on. -/
def ringEvents (r : EventRing) : List Event :=
  (List.range (r.head - r.tail).toNat).map fun k => ringAt r (r.tail + BitVec.ofNat 8 k)

end Sys2Proof.Machine
end

