-- ==== Sys2Proof/Machine/KbdOps.lean ====
section
/-! DEFINITION. The scancode decoder's operations (44_kbd.md): KBD_LED_WRITE, KBD_DECODE and KBD_INTAKE, all of interrupt
context. The step numbers are those of R280, R261 and R260. -/

namespace Sys2Proof.Machine

open Sys2Proof

/-! ### KBD_LED_WRITE (R280) -/

/-- One status poll (R280 steps 2 and 4): the read. -/
def State.poll (s : State) : State := s.portRead kbdStatus

/-- R280: the status bit the poll waits for is 1. -/
def State.ibfSet (s : State) : Bool := s.portAnswer kbdStatus &&& kbdIbfMask != 0

/-- The poll loop once no stimulus can land any more: `n` busy reads and the one that ends the loop. -/
def pollBusy : Nat → State → State
  | 0, s => s.poll
  | n + 1, s => pollBusy n s.poll

/-- The poll loop with no stimulus left: it ends after the busy reads, or never (R282, U12: a hang). -/
def pollQuiet (s : State) : State :=
  match s.kbc.busy with
  | .reads n => pollBusy n s
  | .forever => { s.poll with hang := some .ledWait }

/-- R280 steps 2 and 4: poll the status until KBD_IBF_BIT is 0. The argument is the script of `s`; a batch of it lands
after each busy read. -/
def pollLoop : List (List Stimulus) → State → State
  | [], s => pollQuiet s
  | b :: bs, s =>
    if s.ibfSet then
      (stimuliNested b { s.poll with script := bs }).andThen (pollLoop bs)
    else s.poll

/-- R280 KBD_LED_WRITE. -/
def ledWriteOp (s : State) : State :=
  let mask := ledMask s.dec                                       -- step 1
  (envI s).andThen fun s =>
  (pollLoop s.script s).andThen fun s =>                          -- step 2
  (envI s).andThen fun s =>
  (envI (s.portWrite kbdData ledCmd)).andThen fun s =>            -- step 3
  (pollLoop s.script s).andThen fun s =>                          -- step 4
  (envI s).andThen fun s =>
  s.portWrite kbdData mask                                        -- step 5

/-! ### KBD_DECODE (R261) -/

/-- Emit where the table entry is not 0 (R275: "a zero table entry means 'no event'"). -/
def emitNonzero (e : Event) (s : State) : State := if e = evNone then s else rbPushOp e s

/-- R261 step 12 (R274). -/
def decodeMain (code : BitVec 7) (s : State) : State := emitNonzero (mainEvent s.dec code) s

/-- R261 step 11 (R273). -/
def decodeNumpad (code : BitVec 7) (s : State) : State :=
  match numpadEvents code with
  | some (on, off) => emitNonzero (if s.dec.num then on else off) s
  | none => (envI s).andThen (decodeMain code)

/-- R261 step 10 (R272). -/
def decodePress (rel : Bool) (code : BitVec 7) (s : State) : State :=
  if rel then s else (envI s).andThen (decodeNumpad code)

/-- R261 step 9 (R272). -/
def decodeFn (rel : Bool) (code : BitVec 7) (s : State) : State :=
  match fnEvent code with
  | some e => if rel then s else rbPushOp e s
  | none => (envI s).andThen (decodePress rel code)

/-- R261 step 8 (R271). -/
def decodeExt (rel wasExt : Bool) (code : BitVec 7) (s : State) : State :=
  if wasExt then (if rel then s else emitNonzero (tExt code) s)
  else (envI s).andThen (decodeFn rel code)

/-- R261 step 7 (R268, R269). -/
def decodeSticky (rel wasExt : Bool) (code : BitVec 7) (s : State) : State :=
  match modifierOf code with
  | some m => { s with dec := setModifier m (!rel) s.dec }
  | none =>
    match lockOf code with
    | some l => if rel then s else ledWriteOp { s with dec := toggleLock l s.dec }
    | none => (envI s).andThen (decodeExt rel wasExt code)

/-- R261 step 6 (R267). -/
def decodeAlias (rel wasExt : Bool) (code : BitVec 7) (s : State) : State :=
  match if rel then none else aliasEvent code with
  | some e => rbPushOp e s
  | none => (envI s).andThen (decodeSticky rel wasExt code)

/-- R261 step 5 (R266, R127). -/
def decodeKey (b : Byte) (s : State) : State :=
  let wasExt := s.dec.ext
  (envI { s with dec := { s.dec with ext := false } }).andThen (decodeAlias (scRelease b) wasExt (scCode b))

/-- R261 step 4 (R265). -/
def decodeExtPrefix (b : Byte) (s : State) : State :=
  if b = scExt then { s with dec := { s.dec with ext := true } } else (envI s).andThen (decodeKey b)

/-- R261 step 3 (R264). A press match is consumed; every other byte goes on, whether it was appended or not. -/
def decodeFrame (b : Byte) (s : State) : State :=
  let press := completesPress b s.dec
  let s := { s with dec := accumulate b s.dec }
  if press then rbPushOp keyPrtscr { s with dec := { s.dec with ext := false } }
  else (envI s).andThen (decodeExtPrefix b)

/-- R261 step 2 (R263). -/
def decodePausePrefix (b : Byte) (s : State) : State :=
  if b = scPause then { s with dec := { s.dec with pause := true } } else (envI s).andThen (decodeFrame b)

/-- R261 KBD_DECODE(b), from step 1 (R262). -/
def decodeOp (b : Byte) (s : State) : State :=
  if s.dec.pause then rbPushOp keyPause { s with dec := clearToIdle s.dec }
  else (envI s).andThen (decodePausePrefix b)

/-! ### KBD_INTAKE (R260) -/

/-- R260 KBD_INTAKE: one read of KBD_DATA, then the decode of the byte. -/
def intakeOp (s : State) : State :=
  let b := s.portAnswer kbdData
  (envI (s.portRead kbdData)).andThen (decodeOp b)

end Sys2Proof.Machine
end

