-- ==== Sys2Proof/Machine/TimerOps.lean ====
section
/-! DEFINITION. The tick counter and timeout scheduler's operations (43_timer.md): SCHEDULE, UPTIME, FORMAT, which main
context and callbacks share, and TICK, ADVANCE and Invoke, of interrupt context. `bd` is the step boundary of the context
an operation runs in. -/

namespace Sys2Proof.Machine

open Sys2Proof

/-! ### SCHEDULE (R230) -/

/-- Write timeout slot `i`. -/
def State.setSlot (s : State) (i : Fin 16) (t : Timeout) : State := { s with tmo := s.tmo.set i t }

/-- R230 steps 3 to 5: the fields of the free slot `i`, `active` last (D25). -/
def armSlot (bd : State → State) (cb : Word64) (d : Word64) (i : Fin 16) (s : State) : State :=
  (bd (s.setSlot i { s.tmo[i] with cb := callbackRef s.cfg cb })).andThen fun s =>   -- step 3
  (bd (s.setSlot i { s.tmo[i] with target := s.ticks + d })).andThen fun s =>        -- step 4
  bd (s.setSlot i { s.tmo[i] with active := true })                                  -- step 5

/-- R230 step 2: the scan for the first inactive slot; no slot, no effect (R231). -/
def scheduleScan (bd : State → State) (cb : Word64) (d : Word64) : List (Fin 16) → State → State
  | [], s => s
  | i :: is, s =>
    if s.tmo[i].active then (bd s).andThen (scheduleScan bd cb d is)
    else (bd s).andThen (armSlot bd cb d i)

/-- R230 SCHEDULE(cb, d). `guarded` is "context = M": only then is `sched_busy` set (R40, R229). -/
def scheduleOp (bd : State → State) (guarded : Bool) (cb : Word64) (d : Word64) (s : State) : State :=
  (bd (if guarded then { s with schedBusy := true } else s)).andThen fun s =>        -- step 1
  (scheduleScan bd cb d slots s).andThen fun s =>                                    -- steps 2 to 5
  if guarded then { s with schedBusy := false } else s                               -- step 6

/-! ### UPTIME and FORMAT (R240, R241) -/

/-- R240 UPTIME: one atomic read of `ticks`. -/
def uptimeOp (s : State) : State := { s with ret := .ticks s.ticks }

/-- R241 FORMAT(ms). -/
def formatOp (ms : Word64) (s : State) : State := { s with ret := timeOf ms }

/-! ### Invoke (R228, R229) -/

/-- One request of a callback (R229): SCHEDULE, UPTIME and FORMAT run; any other is refused (R343, R344). -/
def callbackRequest (w : RequestWord) (s : State) : State :=
  match decode w with
  | .ok (.schedule cb d) => scheduleOp envI false cb d s
  | .ok .uptime => uptimeOp s
  | .ok (.format ms) => formatOp ms s
  | .ok _ => s.refuse .callbackEffect
  | .unknownOp => s.refuse .unknownOp
  | .nonzeroUnused o => s.refuse (if opAdmits o .callback then .nonzeroUnused else .callbackEffect)

/-- The requests of a callback, in order. -/
def callbackRequests : List RequestWord → State → State
  | [], s => s
  | w :: ws, s => (callbackRequest w s).andThen fun s => (envI s).andThen (callbackRequests ws)

/-- R228 Invoke(cb): the callback runs synchronously in interrupt context, and returns or hangs. -/
def invokeOp (cb : CallbackId) (s : State) : State :=
  let caller := s.ctx
  let text := callbackText s.cbs cb s.freeCount
  let s := { s.log (.invoke cb) with ctx := .callback, freeCount := s.freeCount + 1 }
  (envI s).andThen fun s =>
  (callbackRequests text.requests s).andThen fun s =>
  if text.returns then { s with ctx := caller } else { s with hang := some (.callback cb) }

/-! ### ADVANCE and TICK (R226, R220) -/

/-- R226 step 1: an active entry whose target is reached, by unsigned comparison (R232). -/
def State.fires (s : State) (i : Fin 16) : Bool :=
  s.tmo[i].active && decide (s.tmo[i].target.toNat ≤ s.ticks.toNat)

/-- R226 steps 2 and 3: deactivate first, then invoke. -/
def fireSlot (i : Fin 16) (s : State) : State :=
  let cb := s.tmo[i].cb
  (envI (s.setSlot i { s.tmo[i] with active := false })).andThen (invokeOp cb)

/-- R226 ADVANCE, over the slots given. -/
def advanceSlots : List (Fin 16) → State → State
  | [], s => s
  | i :: is, s =>
    ((if s.fires i then (envI s).andThen (fireSlot i) else s).andThen envI).andThen (advanceSlots is)

/-- R226 ADVANCE. -/
def advanceOp (s : State) : State := advanceSlots slots s

/-- R220 TICK: count modulo 2^64, then scan. -/
def tickOp (s : State) : State := (envI { s with ticks := s.ticks + 1 }).andThen advanceOp

end Sys2Proof.Machine
end

