-- ==== Sys2Proof/Machine/Delivery.lean ====
section
/-! DEFINITION. PIC_EOI (R185), HANDLE (R200), and with them the delivery of a vector to main context (R348) and main
context's step boundaries (R381). -/

namespace Sys2Proof.Machine

open Sys2Proof

/-- R185 PIC_EOI(line): the secondary first where line >= 8, then always the primary. -/
def eoiOp (line : Byte) (s : State) : State :=
  (envI (if lineIsSecondary line then s.portWrite pic2Cmd eoiCmd else s)).andThen fun s =>
  s.portWrite pic1Cmd eoiCmd

/-- R204: the work of a hardware line. -/
def lineWork (line : Byte) (s : State) : State :=
  if line = 0 then tickOp s
  else if line = 1 then intakeOp s
  else s

/-- R200 step 2: report, or serve and acknowledge the line, by vector. -/
def handleVector (v : Byte) (s : State) : State :=
  if v.toNat ≤ 31 then s.log (.report .exception v)
  else if v.toNat ≤ 47 then
    (lineWork (lineOf v) s).andThen fun s => (envI s).andThen (eoiOp (lineOf v))
  else s.log (.report .unexpected v)

/-- R200 HANDLE(v). -/
def handleOp (v : Byte) (s : State) : State :=
  (envI { s with inIrq := true }).andThen fun s =>
  (handleVector v s).andThen fun s =>
  (envI s).andThen fun s => { s with inIrq := false }

/-- The interrupted main-context state (R347). -/
def State.point (s : State) : MainPoint := { ctl := s.main, op := s.running, passed := s.passed, next := s.inputs }

/-- Main context stands at the instruction that raises `v` and interrupts it at `p` (R347, log 22). -/
def retrying (v : Byte) (p : MainPoint) : MainCtl := .raising v p.ctl p.op p.passed p.next

/-- Main context, interrupted at `p` by `v`, continues as EXC_RESUME says (R347, R353): past the reported instruction it
goes on, else it is sent away from what it was doing. -/
def State.resumed (s : State) (v : Byte) (p : MainPoint) : Resume → State
  | .past => s
  | .retry => { s with redirect := some (.raising v p) }
  | .elsewhere program => { s with redirect := some (.elsewhere program) }

/-- R348: Deliver(v) to main context, which is interrupted at `p`; after an exception's report main context continues as
EXC_RESUME says for `v` and `p` (R347, R353).

DESIGN CHOICE (log 37): the vector decides. A request of the controller pair that is taken with a vector of 31 or less
(a vector base below 32, as before the remap) is reported as an exception (R203), and EXC_RESUME is asked for its vector,
though R353 resumes a hardware interrupt at the next instruction.

DESIGN CHOICE (log 38): the vector is the delivered `v`, not the `w` that the stub of slot `v` passes to HANDLE, where
SET_GATE has put STUB[w] there. With `v` of 32 or more and `w` of 31 or less HANDLE reports the exception `w` (R203), and
main context goes on at its next instruction: EXC_RESUME is not asked. -/
def deliverAt (p : MainPoint) (v : Byte) (s : State) : State :=
  (deliverWith handleOp v s).andThen fun t =>
    if v.toNat ≤ 31 then t.resumed v p (resumeAt s.cfg v p) else t

/-- A delivery that lands where main context stands. The vector decides whether EXC_RESUME is asked, a request of the
controller pair included (DESIGN CHOICE, log 37), and it is the delivered one (DESIGN CHOICE, log 38). -/
def deliverOp (v : Byte) (s : State) : State := deliverAt s.point v s

/-- A step boundary of main context (R381): the next batch of the script lands here (log 9), in the order of R358, and
deliveries happen. -/
def envM (s : State) : State :=
  match s.script with
  | [] => s
  | b :: bs => stimuliWith State.live deliverOp (orderBatch b) { s with script := bs, passed := s.passed + 1 }

/-- The step boundary of the running context. -/
def boundary (s : State) : State := if s.ctx = .main then envM s else envI s

end Sys2Proof.Machine
end

