-- ==== Sys2Proof/Machine/Disp.lean ====
section
/-! DEFINITION. Unit DISP, the interrupt dispatcher (42_dispatch.md): HANDLE. -/

namespace Sys2Proof.Machine

open Sys2Proof

/-- HANDLE (R200), which only the environment issues (R131). -/
def execHandle (v : Byte) (s : State) : Host.Outcome State Fault Refusal := s.admitted .handle (handleOp v)

end Sys2Proof.Machine
end

