-- ==== Sys2Proof/Machine/Erb.lean ====
section
/-! DEFINITION. Unit ERB, the event ring buffer (45_ring.md): RB_PUSH of interrupt context and RB_POP of main context. -/

namespace Sys2Proof.Machine

open Sys2Proof

/-- R323 RB_POP: the element is read before the index that releases it; an empty ring answers EV_NONE. A push may land
at any of its step boundaries (R326). -/
def rbPopOp (s : State) : State :=
  let t := s.rb.tail                                              -- step 1
  (boundary s).andThen fun s =>
  let h := s.rb.head                                              -- step 2
  (boundary s).andThen fun s =>
  if h = t then { s with ret := .event evNone }                   -- step 3
  else
    (boundary s).andThen fun s =>
    let e := ringAt s.rb t                                        -- step 4
    (boundary s).andThen fun s =>
    (boundary { s with rb := { s.rb with tail := t + 1 } }).andThen fun s =>     -- step 5
    { s with ret := .event e }                                    -- step 6

/-- RB_PUSH (R321), of interrupt context only (R325). -/
def execRbPush (e : Event) (s : State) : Host.Outcome State Fault Refusal := s.admitted .rbPush (rbPushOp e)

/-- RB_POP (R323), of main context only (R325). -/
def execRbPop (s : State) : Host.Outcome State Fault Refusal := s.admitted .rbPop rbPopOp

end Sys2Proof.Machine
end

