-- ==== Sys2Proof/Machine/Itb.lean ====
section
/-! DEFINITION. Unit ITB, the interrupt table builder (40_idt.md): SET_GATE and IDT_INIT. -/

namespace Sys2Proof.Machine

open Sys2Proof

/-- R160 SET_GATE(v, h, attr). Its seven writes are one step (D11). -/
def setGateOp (v : Byte) (h : Word64) (attr : Byte) (s : State) : State :=
  (boundary { s with gateBusy := some v }).andThen fun s =>                                            -- step 1
  (boundary { s with mem := writeGate s.mem (slotAddr s.cfg.idtBase v) h attr }).andThen fun s =>      -- step 2
  { s with gateBusy := none }                                                                          -- step 3

/-- R161 step 1: zero the slots given. -/
def zeroSlots : List Nat → State → State
  | [], s => s
  | v :: vs, s =>
    (boundary { s with mem := memWrite s.mem (slotAddr s.cfg.idtBase (BitVec.ofNat 8 v)) 16 0 }).andThen (zeroSlots vs)

/-- R161 steps 2 and 3: install the stubs of the vectors given. -/
def installStubs : List Nat → State → State
  | [], s => s
  | v :: vs, s =>
    (setGateOp (BitVec.ofNat 8 v) (stubAddr s.cfg v) gateAttrInt s).andThen fun s =>
    (boundary s).andThen (installStubs vs)

/-- R161 step 4: the pointer record (R115). -/
def writePointer (m : Memory) (c : Config) : Memory :=
  memWrite (memWrite m c.idtpAddr 2 idtLimit.toNat) (c.idtpAddr + 2) 8 c.idtBase.toNat

/-- R161 IDT_INIT. -/
def idtInitOp (s : State) : State :=
  if s.cpu.ifl then s.raise .liveInit                                                                  -- step 0
  else
    (boundary s).andThen fun s =>
    (zeroSlots (List.range 256) s).andThen fun s =>                                                    -- step 1
    (installStubs (List.range 32) s).andThen fun s =>                                                  -- step 2
    (installStubs (List.range' 32 16) s).andThen fun s =>                                              -- step 3
    (boundary { s with mem := writePointer s.mem s.cfg }).andThen fun s =>                             -- step 4
    s.loadIdt s.cfg.idtpAddr                                                                           -- step 5

/-- SET_GATE (R160), admitted in M and I (R165). -/
def execSetGate (v : Byte) (h : Word64) (attr : Byte) (s : State) : Host.Outcome State Fault Refusal :=
  s.admitted .setGate (setGateOp v h attr)

/-- IDT_INIT (R161), admitted in M; `Fault(LiveInit)` with `cpu.if` true. -/
def execIdtInit (s : State) : Host.Outcome State Fault Refusal := s.admitted .idtInit idtInitOp

end Sys2Proof.Machine
end

