-- ==== Sys2Proof/Machine/Picd.lean ====
section
/-! DEFINITION. Unit PICD, the interrupt controller driver (41_pic.md): PIC_REMAP and PIC_EOI. -/

namespace Sys2Proof.Machine

open Sys2Proof

/-- R181 steps 3 to 12: the port writes in their order, a step boundary after each. -/
def remapWrites : List (Port × Byte) → State → State
  | [], s => s
  | (p, v) :: ws, s => (boundary (s.portWrite p v)).andThen (remapWrites ws)

/-- R181: the ten writes, for the offsets and the saved masks. -/
def remapSequence (o1 o2 m1 m2 : Byte) : List (Port × Byte) :=
  [(pic1Cmd, icw1), (pic2Cmd, icw1),
   (pic1Data, o1), (pic2Data, o2),
   (pic1Data, icw3Pri), (pic2Data, icw3Sec),
   (pic1Data, icw4), (pic2Data, icw4),
   (pic1Data, unmaskTimerKbd m1), (pic2Data, m2)]

/-- R181 PIC_REMAP(o1, o2). LiveInit is checked before OffsetBelow32 (R344). -/
def picRemapOp (o1 o2 : Byte) (s : State) : State :=
  if s.cpu.ifl then s.raise .liveInit                                                                  -- step 0
  else if o1.toNat < 32 ∨ o2.toNat < 32 then s.raise .offsetBelow32
  else
    (boundary s).andThen fun s =>
    let m1 := s.portAnswer pic1Data                                                                    -- step 1
    (boundary (s.portRead pic1Data)).andThen fun s =>
    let m2 := s.portAnswer pic2Data                                                                    -- step 2
    (boundary (s.portRead pic2Data)).andThen fun s =>
    (remapWrites (remapSequence o1 o2 m1 m2) s).andThen fun s =>                                       -- steps 3 to 12
    { s with remap := some { off1 := o1, off2 := o2 } }                                                -- step 13

/-- PIC_REMAP (R181), admitted in M. -/
def execPicRemap (o1 o2 : Byte) (s : State) : Host.Outcome State Fault Refusal :=
  s.admitted .picRemap (picRemapOp o1 o2)

/-- PIC_EOI (R185), admitted in I only (R186). -/
def execPicEoi (line : Byte) (s : State) : Host.Outcome State Fault Refusal :=
  s.admitted .picEoi (eoiOp line)

end Sys2Proof.Machine
end

