-- ==== Sys2Proof/Machine/Scd.lean ====
section
/-! DEFINITION. Unit SCD, the scancode decoder (44_kbd.md): KBD_INTAKE, KBD_DECODE, KBD_LED_WRITE, all of interrupt
context. -/

namespace Sys2Proof.Machine

open Sys2Proof

/-- KBD_INTAKE (R260). -/
def execKbdIntake (s : State) : Host.Outcome State Fault Refusal := s.admitted .kbdIntake intakeOp

/-- KBD_DECODE (R261). -/
def execKbdDecode (b : Byte) (s : State) : Host.Outcome State Fault Refusal := s.admitted .kbdDecode (decodeOp b)

/-- KBD_LED_WRITE (R280). -/
def execKbdLedWrite (s : State) : Host.Outcome State Fault Refusal := s.admitted .kbdLedWrite ledWriteOp

end Sys2Proof.Machine
end

