-- ==== Sys2Proof/Machine/Tts.lean ====
section
/-! DEFINITION. Unit TTS, the tick counter and timeout scheduler (43_timer.md): TICK, ADVANCE, SCHEDULE, SLEEP, UPTIME,
FORMAT. -/

namespace Sys2Proof.Machine

open Sys2Proof

/-- R236 SLEEP(ms): the start, and the first check. In main context an unfinished sleep goes on by `mainStep`; in
interrupt context it is stuck (D28). -/
def sleepOp (ms : Word64) (s : State) : State :=
  let start := s.ticks                                            -- step 1
  (boundary s).andThen fun s =>
  if sleepDone start ms s.ticks then s                            -- step 3
  else if s.ctx = .main then { s with main := .sleepHalt start ms }
  else { s with hang := some .sleep }

/-- Main context's next step of its own: inside a SLEEP (R236) the check of step 3, or the Halt of step 4; at an
instruction that is retried (R347) the exception again, after which main context goes on where EXC_RESUME says past. A
halted main context has no step until a delivery wakes it; an
idle one has none of its own. -/
def mainStep (s : State) : State :=
  match s.main with
  | .idle => s
  | .sleepCheck start ms =>
    if sleepDone start ms s.ticks then { s with main := .idle } else { s with main := .sleepHalt start ms }
  | .sleepHalt start ms => { s with main := .halted start ms }
  | .halted _ _ => s
  | .raising v ctl op passed next =>
    (deliverAt { ctl := ctl, op := op, passed := passed, next := next } v s).andThen fun t => { t with main := .idle }

/-- TICK (R220), of interrupt context. -/
def execTick (s : State) : Host.Outcome State Fault Refusal := s.admitted .tick tickOp

/-- ADVANCE (R226), of interrupt context. -/
def execAdvance (s : State) : Host.Outcome State Fault Refusal := s.admitted .advance advanceOp

/-- SCHEDULE (R230), of main context (guarded by `sched_busy`) and of callbacks. -/
def execSchedule (cb : Word64) (d : Word64) (s : State) : Host.Outcome State Fault Refusal :=
  s.admitted .schedule (scheduleOp boundary (s.ctx == .main) cb d)

/-- SLEEP (R236), of main context; admitted and stuck in interrupt context. -/
def execSleep (ms : Word64) (s : State) : Host.Outcome State Fault Refusal := s.admitted .sleep (sleepOp ms)

/-- UPTIME (R240), of any context but the environment. -/
def execUptime (s : State) : Host.Outcome State Fault Refusal := s.admitted .uptime uptimeOp

/-- FORMAT (R241), of any context but the environment. -/
def execFormat (ms : Word64) (s : State) : Host.Outcome State Fault Refusal := s.admitted .format (formatOp ms)

end Sys2Proof.Machine
end

