-- ==== Sys2Proof/Machine/Dispatch.lean ====
section
/-! DEFINITION. The meaning of each request (R131), one arm per row of the opcode table. -/

namespace Sys2Proof.Machine

open Sys2Proof

def exec (i : Instr) (s : State) : Host.Outcome State Fault Refusal :=
  match i with
  | .setGate v h attr => Sys2Proof.Machine.execSetGate v h attr s
  | .idtInit => Sys2Proof.Machine.execIdtInit s
  | .picRemap o1 o2 => Sys2Proof.Machine.execPicRemap o1 o2 s
  | .picEoi line => Sys2Proof.Machine.execPicEoi line s
  | .handle v => Sys2Proof.Machine.execHandle v s
  | .tick => Sys2Proof.Machine.execTick s
  | .advance => Sys2Proof.Machine.execAdvance s
  | .schedule cb d => Sys2Proof.Machine.execSchedule cb d s
  | .sleep ms => Sys2Proof.Machine.execSleep ms s
  | .uptime => Sys2Proof.Machine.execUptime s
  | .format ms => Sys2Proof.Machine.execFormat ms s
  | .kbdIntake => Sys2Proof.Machine.execKbdIntake s
  | .kbdDecode b => Sys2Proof.Machine.execKbdDecode b s
  | .kbdLedWrite => Sys2Proof.Machine.execKbdLedWrite s
  | .rbPush e => Sys2Proof.Machine.execRbPush e s
  | .rbPop => Sys2Proof.Machine.execRbPop s

end Sys2Proof.Machine
end

