-- ==== Sys2Proof/Machine/Run.lean ====
section
/-! DEFINITION. A step of the machine around `exec`: the next input is a batch of stimuli at main context's step boundary,
the word that lets main context go on, a request, or a drain (log 8, 9). -/

namespace Sys2Proof.Machine

open Sys2Proof

/-- A request is issued: its context, its script and, where it is one the decoder reads, the request in progress. A request
issued directly in interrupt context or by a callback is applied "as if it were called from HANDLE" (R131): `in_irq` is
true while it runs (log 24). -/
def State.begin (s : State) (issuer : Context) (request : Option Instr) (during : List (List Stimulus)) : State :=
  { s with
    ctx := issuer
    script := during
    running := request
    inIrq := s.inIrq || issuer == .interrupt || issuer == .callback }

/-- Batches that met no step boundary, as inputs that land next (log 9). -/
def asInputs (bs : List (List Stimulus)) : List Input :=
  (bs.filter fun b => !b.isEmpty).map fun b => .stim b []

/-- What began in `s` is over in `t`. Its context is left, and the stimuli that met no step boundary of it land next (log
9); they land in the interrupt context that hangs, where one does. Where EXC_RESUME sent main context away, it stands at the
instruction that raises the exception again, or starts the other program (R347). A fault leaves all as it is (R14). -/
def State.finish (s t : State) : State :=
  match t.faults, t.hang with
  | _ :: _, _ => t
  | [], some _ => { t with script := [], inputs := asInputs t.script ++ t.inputs }
  | [], none =>
    let u :=
      { t with
        ctx := .main
        inIrq := s.inIrq
        script := []
        running := none
        passed := 0
        redirect := none }
    match t.redirect with
    | none => { u with inputs := asInputs t.script ++ t.inputs }
    | some (.raising v p) => { u with main := retrying v p, inputs := asInputs t.script ++ t.inputs }
    | some (.elsewhere program) => { u with main := .idle, inputs := asInputs t.script ++ program }

/-- A request record in the context that issues it (R344): UnknownOp, WrongContext, NonzeroUnused, then the operation. -/
def runRequest (issuer : Context) (w : RequestWord) (during : List (List Stimulus)) (s : State) :
    Host.Outcome State Fault Refusal :=
  match decode w with
  | .ok i =>
    match exec i (s.begin issuer (some i) during) with
    | .next t => .next (s.finish t)
    | .fault f => .fault f
    | .refused r => .refused r
  | .unknownOp => .next (s.finish ((s.begin issuer none during).refuse .unknownOp))
  | .nonzeroUnused o =>
    .next (s.finish ((s.begin issuer none during).refuse
      (if opAdmits o issuer then .nonzeroUnused else contextRefusal issuer)))

/-- A batch of stimuli at the boundary main context stands at (R381, R358). -/
def runBatch (batch : List Stimulus) (during : List (List Stimulus)) (s : State) : State :=
  s.finish (stimuliWith State.live deliverOp (orderBatch batch) { s with script := during })

/-- Main context takes its next step of its own. -/
def runMain (during : List (List Stimulus)) (s : State) : State :=
  s.finish (mainStep { s with script := during })

/-- The drain that waits first is over. -/
def dropDrain : List Input → List Input
  | [] => []
  | .drain _ :: xs => xs
  | .stim b d :: xs => .stim b d :: dropDrain xs
  | .proceed d :: xs => .proceed d :: dropDrain xs
  | .request c w d :: xs => .request c w d :: dropDrain xs

/-- R137 `drain`: one RB_POP; the drain is over where it returned EV_NONE, and goes on otherwise. -/
def runDrain (scripts : List (List (List Stimulus))) (s : State) : Host.Outcome State Fault Refusal :=
  match runRequest .main (encode .rbPop) (scripts.headD []) { s with ret := .none, inputs := .drain scripts.tail :: s.inputs } with
  | .next t => .next (if t.ret = .event evNone then { t with inputs := dropDrain t.inputs } else t)
  | .fault f => .fault f
  | .refused r => .refused r

/-- A hung interrupt context (R228, R282): the next batch lands in it, whole unless a delivery in it faults (R355), or it
goes on as it does for ever (log 17). -/
def hangStep (h : Hang) (s : State) : State :=
  match s.inputs with
  | .stim batch during :: rest => stimuliNested batch { s with inputs := asInputs during ++ rest }
  | _ =>
    match h with
    | .ledWait => s.poll
    | .callback _ => s
    | .sleep => s

/-- One step of a run that has recorded no fault. A request waits until main context is idle. -/
def runStep (s : State) : Host.Outcome State Fault Refusal :=
  match s.hang with
  | some h => .next (hangStep h s)
  | none =>
    match s.inputs with
    | [] => .next (runMain [] s)
    | .stim batch during :: rest => .next (runBatch batch during { s with inputs := rest })
    | .proceed during :: rest => .next (runMain during { s with inputs := rest })
    | .request issuer w during :: rest =>
      match s.main with
      | .idle => runRequest issuer w during { s with inputs := rest }
      | _ => .next (runMain [] s)
    | .drain scripts :: rest =>
      match s.main with
      | .idle => runDrain scripts { s with inputs := rest }
      | _ => .next (runMain [] s)

/-- The table word's issuer (log 8): a context R131 lists for its operation. -/
def wordIssuer (w : RequestWord) : Context :=
  match Op.ofSelector (Request.ofWord w).op with
  | some o => opIssuer o
  | none => .main

end Sys2Proof.Machine
end

