-- ==== Sys2Proof/Machine/Step.lean ====
section
/-! DEFINITION. The step function, and the host's table word as the next request. -/

namespace Sys2Proof.Machine

open Sys2Proof

/-- One step. A configuration whose regions overlap is refused before the first request (R80, R343). A run that has
recorded a fault has left the model (R342, R14). -/
def step (s : State) : Host.Outcome State Fault Refusal :=
  if s.cfg.wellFormed then
    match s.faults with
    | f :: _ => .fault f
    | [] => runStep s
  else .refused .configOverlap

/-- `s` with the table word as its next request, from a context that may issue it, with no stimulus during it (log 8). -/
def State.withFetchWord (s : State) (nbits w : Nat) : State :=
  { s with inputs := .request (wordIssuer (tableWord nbits w)) (tableWord nbits w) [] :: s.inputs }

end Sys2Proof.Machine
end

