-- ==== Sys2Proof/Safety.lean ====
section
/-! DEFINITION. The terms the claims use: a quiet state (no stimulus lands inside the next operation), the bytes the formats
put in memory, an uninterrupted push, the regions the block may write, and the invariant of the steps. -/

namespace Sys2Proof.Machine

open Sys2Proof

/-- The running code goes on and no stimulus waits for a step boundary: an operation runs uninterrupted. -/
def State.Quiet (s : State) : Prop := s.faults = [] ∧ s.hang = none ∧ s.redirect = none ∧ s.script = []

/-- The sixteen bytes of the descriptor R160 writes, in address order, read from the table of R111. -/
def descriptorBytes (h : Word64) (attr : Byte) : List Byte :=
  [h.extractLsb' 0 8, h.extractLsb' 8 8, 0x08, 0x00, 0x00, attr, h.extractLsb' 16 8, h.extractLsb' 24 8,
   h.extractLsb' 32 8, h.extractLsb' 40 8, h.extractLsb' 48 8, h.extractLsb' 56 8, 0x00, 0x00, 0x00, 0x00]

/-- The ten bytes of the pointer record R161 writes, in address order, read from the table of R115. -/
def pointerBytes (base : Word64) : List Byte :=
  [0xFF, 0x0F, base.extractLsb' 0 8, base.extractLsb' 8 8, base.extractLsb' 16 8, base.extractLsb' 24 8,
   base.extractLsb' 32 8, base.extractLsb' 40 8, base.extractLsb' 48 8, base.extractLsb' 56 8]

/-- The `k`-th byte of a region that starts at `base`, as a memory address (modulo 2^64). -/
def byteAt (base : Word64) (k : Nat) : Nat := (base + BitVec.ofNat 64 k).toNat

/-- The region of `n` bytes at `base` holds the address `a`. -/
def inRegion (base : Word64) (n : Nat) (a : Nat) : Prop := ∃ k, k < n ∧ a = byteAt base k

/-- R80: the addresses the block may write: the table and the pointer record. -/
def blockAddress (c : Config) (a : Nat) : Prop := inRegion c.idtBase 4096 a ∨ inRegion c.idtpAddr 10 a

/-- An uninterrupted RB_PUSH (R321): dropped where `head + 1 = tail`, else stored and published. -/
def afterPush (e : Event) (s : State) : State :=
  if s.rb.head + 1 = s.rb.tail then s
  else { s with rb := { buf := s.rb.buf.set s.rb.head.toNat e s.rb.head.isLt, head := s.rb.head + 1, tail := s.rb.tail } }

/-- R322: the ring is full. -/
def ringFull (r : EventRing) : Prop := r.head + 1 = r.tail

/-- The decoder after a byte that is neither 0xE0 nor 0xE1 and completes no PrintScreen press (R264, R266): the frame
has taken it where it takes it, and the extended flag is consumed. -/
def keyDecoder (b : Byte) (d : Decoder) : Decoder := { accumulate b d with ext := false }

/-- A byte that reaches step 5 of KBD_DECODE in this decoder (R261 to R265). -/
def reachesKey (b : Byte) (d : Decoder) : Prop :=
  d.pause = false ∧ b ≠ 0xE1 ∧ b ≠ 0xE0 ∧ completesPress b d = false

/-- The extended table as R291 lists it: code after 0xE0, event. Every other code emits nothing. -/
def extendedRows : List (BitVec 7 × Event) :=
  [(0x10, 0x011C), (0x19, 0x011D), (0x1C, 0x000A), (0x20, 0x011E), (0x21, 0x011F), (0x22, 0x0120), (0x24, 0x0121),
   (0x2E, 0x0122), (0x30, 0x0123), (0x32, 0x0124), (0x35, 0x002F), (0x47, 0x0104), (0x48, 0x0100), (0x49, 0x0106),
   (0x4B, 0x0102), (0x4D, 0x0103), (0x4F, 0x0105), (0x50, 0x0101), (0x51, 0x0107), (0x52, 0x0108), (0x53, 0x0109),
   (0x5B, 0x0119), (0x5C, 0x011A), (0x5D, 0x011B), (0x5E, 0x0125), (0x5F, 0x0126), (0x63, 0x0127)]

/-- The keypad as R293 lists it: code, event with numlock on, event with numlock off (0: no event). -/
def keypadRows : List (BitVec 7 × Event × Event) :=
  [(0x47, 0x0037, 0x0104), (0x48, 0x0038, 0x0100), (0x49, 0x0039, 0x0106), (0x4A, 0x002D, 0x002D),
   (0x4B, 0x0034, 0x0102), (0x4C, 0x0035, 0x0000), (0x4D, 0x0036, 0x0103), (0x4E, 0x002B, 0x002B),
   (0x4F, 0x0031, 0x0105), (0x50, 0x0032, 0x0101), (0x51, 0x0033, 0x0107), (0x52, 0x0030, 0x0108),
   (0x53, 0x002E, 0x0109)]

/-- The function keys as R292 lists them. -/
def functionRows : List (BitVec 7 × Event) :=
  [(0x3B, 0x010A), (0x3C, 0x010B), (0x3D, 0x010C), (0x3E, 0x010D), (0x3F, 0x010E), (0x40, 0x010F), (0x41, 0x0110),
   (0x42, 0x0111), (0x43, 0x0112), (0x44, 0x0113), (0x57, 0x0114), (0x58, 0x0115)]

/-- The main tables as R290 lists them: code, T_UNSHIFT entry, T_SHIFT entry. Every other code has entry 0 in both. -/
def mainRows : List (BitVec 7 × Event × Event) :=
  [(0x01, 0x001B, 0x001B), (0x02, 0x0031, 0x0021), (0x03, 0x0032, 0x0040), (0x04, 0x0033, 0x0023),
   (0x05, 0x0034, 0x0024), (0x06, 0x0035, 0x0025), (0x07, 0x0036, 0x005E), (0x08, 0x0037, 0x0026),
   (0x09, 0x0038, 0x002A), (0x0A, 0x0039, 0x0028), (0x0B, 0x0030, 0x0029), (0x0C, 0x002D, 0x005F),
   (0x0D, 0x003D, 0x002B), (0x0E, 0x0008, 0x0008), (0x0F, 0x0009, 0x0009), (0x10, 0x0071, 0x0051),
   (0x11, 0x0077, 0x0057), (0x12, 0x0065, 0x0045), (0x13, 0x0072, 0x0052), (0x14, 0x0074, 0x0054),
   (0x15, 0x0079, 0x0059), (0x16, 0x0075, 0x0055), (0x17, 0x0069, 0x0049), (0x18, 0x006F, 0x004F),
   (0x19, 0x0070, 0x0050), (0x1A, 0x005B, 0x007B), (0x1B, 0x005D, 0x007D), (0x1C, 0x000A, 0x000A),
   (0x1E, 0x0061, 0x0041), (0x1F, 0x0073, 0x0053), (0x20, 0x0064, 0x0044), (0x21, 0x0066, 0x0046),
   (0x22, 0x0067, 0x0047), (0x23, 0x0068, 0x0048), (0x24, 0x006A, 0x004A), (0x25, 0x006B, 0x004B),
   (0x26, 0x006C, 0x004C), (0x27, 0x003B, 0x003A), (0x28, 0x0027, 0x0022), (0x29, 0x0060, 0x007E),
   (0x2B, 0x005C, 0x007C), (0x2C, 0x007A, 0x005A), (0x2D, 0x0078, 0x0058), (0x2E, 0x0063, 0x0043),
   (0x2F, 0x0076, 0x0056), (0x30, 0x0062, 0x0042), (0x31, 0x006E, 0x004E), (0x32, 0x006D, 0x004D),
   (0x33, 0x002C, 0x003C), (0x34, 0x002E, 0x003E), (0x35, 0x002F, 0x003F), (0x37, 0x002A, 0x002A),
   (0x39, 0x0020, 0x0020)]

/-- The modifier and lock codes (R268, R269). -/
def stickyCodes : List (BitVec 7) := [0x2A, 0x36, 0x1D, 0x38, 0x3A, 0x45, 0x46]

/-- An event pushed where it is not EV_NONE (R275). -/
def afterEmit (e : Event) (s : State) : State := if e = 0 then s else afterPush e s

/-- The port events of an LED write (R280), newest first: `n` busy polls and a clear one, the command, a clear poll, the
mask. Of the status byte only bit 1 is the controller's answer; its other bits are `status`. -/
def ledTrace (status : Byte) (n : Nat) (mask : Byte) : List IoEvent :=
  [.portWrite 0x60 mask, .portRead 0x64 (status &&& 0xFD), .portWrite 0x60 0xED, .portRead 0x64 (status &&& 0xFD)] ++
  List.replicate n (.portRead 0x64 (status ||| 0x02))

/-- The state after an LED write of the lock flags of `s` with a controller busy for `n` polls (R280). -/
def afterLedWrite (n : Nat) (s : State) : State :=
  let mask : Byte := (if s.dec.scroll then 1 else 0) + (if s.dec.num then 2 else 0) + (if s.dec.caps then 4 else 0)
  { s with
    kbc := { s.kbc with busy := .reads 0, ledPending := false, leds := mask.setWidth 3 }
    history := ledTrace s.kbc.status n mask ++ s.history }

/-- The state after the first poll of a controller that stays busy (R282, log 17): interrupt context hangs there. -/
def afterStuckPoll (s : State) : State :=
  { s with hang := some .ledWait, history := .portRead 0x64 (s.kbc.status ||| 0x02) :: s.history }

/-- R349 steps 2 and 3: line `n` of a controller is requested, not masked, and no line of its priority or higher is in
service. -/
def lineReady (p : Pic) (n : Fin 8) : Prop :=
  p.irr.getLsbD n = true ∧ p.imr.getLsbD n = false ∧ ∀ k : Fin 8, k ≤ n → p.isr.getLsbD k = false

/-- R349 step 4: line `n` of a controller goes into service. -/
def lineTaken (p : Pic) (n : Fin 8) : Pic :=
  { p with irr := p.irr &&& ~~~(1#8 <<< n.val), isr := p.isr ||| (1#8 <<< n.val) }

/-- Every callback of an active timeout entry is known, issues no request and returns (R228). -/
def callbacksSilent (s : State) : Prop :=
  ∀ i : Fin 16, s.tmo[i].active = true → s.cbs.lookup s.tmo[i].cb = some { requests := [], returns := true }

/-- R226: the entry fires at the tick count `now`. -/
def due (t : Timeout) (now : Word64) : Bool := t.active && decide (t.target.toNat ≤ now.toNat)

/-- R226: the table after a scan at `now` whose callbacks schedule nothing. -/
def scanned (tmo : Vector Timeout 16) (now : Word64) : List Timeout :=
  tmo.toList.map fun t => if due t now then { t with active := false } else t

/-- R226: the invocations of a scan at `now`, in index order. -/
def scanInvokes (tmo : Vector Timeout 16) (now : Word64) : List IoEvent :=
  (tmo.toList.filter fun t => due t now).map fun t => .invoke t.cb

/-- A delivery of `v` passes the checks 1 to 5 of R348 and its stub passes `w`. -/
def wiredTo (s : State) (v w : Byte) : Prop :=
  s.inIrq = false ∧ s.cpu.idtLoaded = true ∧ s.gateBusy ≠ some v ∧ 16 * v.toNat + 15 ≤ s.cpu.idtr.limit.toNat ∧
  (readGate s.mem (slotAddr s.cpu.idtr.base v)).typeAttr = 0x8E ∧
  (readGate s.mem (slotAddr s.cpu.idtr.base v)).selector = 0x0008 ∧
  stubIndex s.cfg (gateHandler (readGate s.mem (slotAddr s.cpu.idtr.base v))) = some w

/-- A state whose next step takes its first input: the configuration is admitted, nothing has stopped the run, and no
operation is under way. -/
def State.Ready (s : State) : Prop :=
  s.cfg.wellFormed = true ∧ s.Quiet ∧ s.ctx = .main ∧ s.running = none ∧ s.passed = 0

/-- Main context at rest at the state `s`, as EXC_RESUME sees it: no request is under way, and `rest` comes next. -/
def restPoint (s : State) (rest : List Input) : MainPoint := { ctl := s.main, op := none, passed := 0, next := rest }

/-- R236: where main context stands after a delivery has returned: a halted one at the check of step 3, any other where it
stood. -/
def wokenMain : MainCtl → MainCtl
  | .halted start ms => .sleepCheck start ms
  | .idle => .idle
  | .sleepCheck start ms => .sleepCheck start ms
  | .sleepHalt start ms => .sleepHalt start ms
  | .raising v ctl op passed next => .raising v ctl op passed next

/-- R358 items 1 and 2: a request to take, or deliver, what main context's CPU takes only after the exception or NMI `v`
that lands at the same boundary: a maskable interrupt, and the NMI after any other exception. -/
def takenAfter (v : Byte) : Stimulus → Bool
  | .take => true
  | .deliver x => decide (32 ≤ x.toNat) || (x == 2 && v != 2)
  | .cli | .sti | .irq _ | .kbd _ | .kbcBusy _ | .kbcStuck | .kbdStatus _ | .mask _ _ | .cb _ _ => false

/-- A stimulus that asks for no delivery. -/
def deliversNothing : Stimulus → Bool
  | .take => false
  | .deliver _ => false
  | .cli | .sti | .irq _ | .kbd _ | .kbcBusy _ | .kbcStuck | .kbdStatus _ | .mask _ _ | .cb _ _ => true

/-- What a stimulus that asks for no delivery does (R49, R136, R349 step 1). A stuck controller and `kbcStuck` are log 17's
choice, `kbdStatus` is log 36's, what `cb` gives is log 18's (DESIGN CHOICE). -/
def landedOne (s : State) : Stimulus → State
  | .cli => { s with cpu := { s.cpu with ifl := false } }
  | .sti => { s with cpu := { s.cpu with ifl := true } }
  | .irq l =>
    if l.val < 8 then { s with pic1 := { s.pic1 with irr := s.pic1.irr ||| (1#8 <<< l.val) } }
    else { s with pic2 := { s.pic2 with irr := s.pic2.irr ||| (1#8 <<< (l.val - 8)) } }
  | .kbd b => { s with kbc := { s.kbc with out := some b } }
  | .kbcBusy n => if s.kbc.busy = .forever then s else { s with kbc := { s.kbc with busy := .reads n } }
  | .kbcStuck => { s with kbc := { s.kbc with busy := .forever } }
  | .kbdStatus b => { s with kbc := { s.kbc with status := b } }
  | .mask m1 m2 => { s with pic1 := { s.pic1 with imr := m1 }, pic2 := { s.pic2 with imr := m2 } }
  | .cb id text => { s with cbs := (id, text) :: s.cbs }
  | .take | .deliver _ => s

/-- What a batch of such stimuli does, in its order. -/
def landed (xs : List Stimulus) (s : State) : State := xs.foldl landedOne s

/-- The state after a delivered exception was reported with the vector `w` (R203, R347, R352, R353): `cpu.if` was saved and
is restored, a halted main context is at its check again (R236), and nothing else has changed. -/
def afterReport (w : Byte) (s : State) : State :=
  { s with
    cpu := { s.cpu with savedIf := s.cpu.ifl }
    main := wokenMain s.main
    history := .report .exception w :: s.history }

/-- The invariant of the steps. Memory keeps its canonical form; at most one fault is ever recorded (R344). While the run
goes on, between steps, main context is the running context, no operation is under way (R37) and no stimulus is left over.
And where main context is never sent away from an operation (EXC_RESUME, R347), no operation's bookkeeping is left set (R35,
R40) and both controllers are outside their initialization sequence (R356). -/
structure State.Inv (s : State) : Prop where
  mem : s.mem.wf = true
  oneFault : s.faults.length ≤ 1
  settled : s.redirect = none
  atRest : s.live = true → s.ctx = .main ∧ s.inIrq = false ∧ s.script = [] ∧ s.running = none ∧ s.passed = 0
  wholeOperations : s.live = true → s.cfg.resumesPast →
    s.gateBusy = none ∧ s.schedBusy = false ∧ s.pic1.initStep = 0 ∧ s.pic2.initStep = 0

end Sys2Proof.Machine
end

