-- ==== Sys2Proof/Certificates/Slice0/Obligations.lean ====
section
/-! DEFINITION. The statements about the model, from the numbered rules of spec/. "Quiet" (Safety.lean) says that no
stimulus lands inside the operation; a statement without it holds whatever lands. -/

open Sys2Proof Sys2Proof.Machine

/-! ### Requests, decoding, refusals -/

/-- A step takes the next request, decodes it, and runs `exec` of the instruction it reads, in the context that issues it
(R130, R131); around `exec` stands only the bookkeeping of log 8, 9 and 24. -/
def Obligations.StepRunsDecodedRequest : Prop :=
  ∀ (s t : State) (c : Context) (i : Instr) (w : RequestWord) (during : List (List Stimulus)) (rest : List Input),
    s.cfg.wellFormed = true → s.faults = [] → s.hang = none → s.main = .idle →
    s.inputs = .request c w during :: rest → decode w = .ok i →
    exec i (({ s with inputs := rest } : State).begin c (some i) during) = .next t →
    step s = .next (({ s with inputs := rest } : State).finish t)

/-- Every request, with every operand, is read back from its record (R130, R131). -/
def Obligations.DecodeEncodeRoundTrip : Prop :=
  ∀ i : Instr, decode (encode i) = .ok i

/-- A record that decodes is the record of what it decodes to: no bit of it is dropped (R130, R131). -/
def Obligations.EncodeDecodedRecord : Prop :=
  ∀ (w : RequestWord) (i : Instr), decode w = .ok i → encode i = w

/-- Records written out from R130 and R131, as 95_test_vectors.md gives them (VI1, VP1, VT4, VB1). -/
def Obligations.DecodeSampleRecords : Prop :=
  decode 0x000000000000008EFFFF8000001023452101 = .ok (.setGate 0x21 0xFFFF800000102345 0x8E) ∧
  decode 0x000000000000000000000000000000282003 = .ok (.picRemap 0x20 0x28) ∧
  decode 0x000000000000006400000000000000010008 = .ok (.schedule 1 100) ∧
  decode 0x00000000000000000000000000000061000F = .ok (.rbPush 0x0061)

/-- R132: the selectors 0x00 and 0x11 to 0xFF, and no others, are illegal; a request with one is refused, and nothing but
the mark (and its reason, log 14) changes. Its stimuli land next (log 9). -/
def Obligations.UnknownSelectorRefused : Prop :=
  (∀ w : RequestWord, decode w = .unknownOp ↔
    (w.extractLsb' 0 8 = 0x00 ∨ 0x11 ≤ (w.extractLsb' 0 8).toNat)) ∧
  ∀ (s : State) (c : Context) (w : RequestWord) (during : List (List Stimulus)) (rest : List Input),
    s.Ready → s.main = .idle → s.inputs = .request c w during :: rest →
    (w.extractLsb' 0 8 = 0x00 ∨ 0x11 ≤ (w.extractLsb' 0 8).toNat) →
    step s = .next
      { s with inputs := asInputs during ++ rest, refused := true, refusals := .unknownOp :: s.refusals }

/-- R130, R343, R344: a request with a nonzero unused field is refused, WrongContext (CallbackEffect from a callback)
before NonzeroUnused, and nothing but the mark (and its reason) changes. Where CallbackEffect stands in that order is
log 14's reading. Its stimuli land next (log 9). -/
def Obligations.NonzeroUnusedRefused : Prop :=
  ∀ (s : State) (c : Context) (w : RequestWord) (o : Op) (during : List (List Stimulus)) (rest : List Input),
    s.Ready → s.main = .idle → s.inputs = .request c w during :: rest →
    Op.ofSelector (w.extractLsb' 0 8) = some o → o.unusedZero (Request.ofWord w) = false →
    step s = .next
      { s with
        inputs := asInputs during ++ rest
        refused := true
        refusals :=
          (if opAdmits o c then .nonzeroUnused else if c = .callback then .callbackEffect else .wrongContext) :: s.refusals }

/-- R131, R186, R229, R325, R343: a request its context may not issue changes nothing but the mark and its reason. The
same of the requests `rs` that a callback issues when a scan invokes it (VT14), whatever they are: each is refused with
CallbackEffect, the callback returns and the scan goes on. That CallbackEffect stands in WrongContext's place for a
callback, and that the reason is kept in a list of the model's own, is log 14's reading (DEDUCED). -/
def Obligations.WrongContextRefused : Prop :=
  (∀ (i : Instr) (s : State),
    (s.ctx = .main ∧ i.op ∈ [Op.picEoi, .handle, .tick, .advance, .kbdIntake, .kbdDecode, .kbdLedWrite, .rbPush] ∨
     s.ctx = .interrupt ∧ i.op ∈ [Op.idtInit, .picRemap, .handle, .schedule, .rbPop] ∨
     s.ctx = .callback ∧ i.op ∉ [Op.schedule, .uptime, .format] ∨
     s.ctx = .environment ∧ i.op ≠ .handle) →
    exec i s = .next
      { s with
        refused := true
        refusals := (if s.ctx = .callback then .callbackEffect else .wrongContext) :: s.refusals }) ∧
  ∀ (i : Fin 16) (rs : List Instr) (s : State),
    s.Quiet → s.ctx = .interrupt → (∀ k : Fin 16, due s.tmo[k] s.ticks = true ↔ k = i) →
    s.cbs.lookup s.tmo[i].cb = some { requests := rs.map encode, returns := true } →
    (∀ r ∈ rs, r.op ∉ [Op.schedule, .uptime, .format]) →
    exec .advance s = .next
      { s with
        tmo := s.tmo.set i { s.tmo[i] with active := false }
        history := .invoke s.tmo[i].cb :: s.history
        freeCount := s.freeCount + 1
        refused := s.refused || !rs.isEmpty
        refusals := List.replicate rs.length .callbackEffect ++ s.refusals }

/-- R14, R342: a run that has recorded a fault has left the model: the step answers the fault. (That it does so at the
next step is the model's choice, log 13.) -/
def Obligations.FaultStopsRun : Prop :=
  ∀ (s : State) (f : Fault) (fs : List Fault),
    s.cfg.wellFormed = true → s.faults = f :: fs → step s = .fault f

/-- R80, R343: a configuration is refused exactly where the table and the pointer record share an address. -/
def Obligations.OverlappingConfigRefused : Prop :=
  ∀ s : State,
    ((∃ a, inRegion s.cfg.idtBase 4096 a ∧ inRegion s.cfg.idtpAddr 10 a) → step s = .refused .configOverlap) ∧
    ((¬ ∃ a, inRegion s.cfg.idtBase 4096 a ∧ inRegion s.cfg.idtpAddr 10 a) → step s ≠ .refused .configOverlap)

/-! ### Interrupt table builder -/

/-- R160, R111, R125: SET_GATE writes the sixteen bytes of slot `v` and nothing else; `gate_busy` is none after it. -/
def Obligations.SetGateWritesDescriptor : Prop :=
  ∀ (v : Byte) (h : Word64) (attr : Byte) (s : State),
    s.Quiet → (s.ctx = .main ∨ s.ctx = .interrupt) → s.mem.wf = true →
    ∃ t, exec (.setGate v h attr) s = .next t ∧ t = { s with mem := t.mem, gateBusy := none } ∧
      (∀ k (hk : k < (descriptorBytes h attr).length),
        readByte t.mem (byteAt (s.cfg.idtBase + 16 * v.setWidth 64) k) = (descriptorBytes h attr)[k]) ∧
      ∀ a, ¬ inRegion (s.cfg.idtBase + 16 * v.setWidth 64) 16 a → readByte t.mem a = readByte s.mem a

/-- R126: the address a written descriptor points at is the handler. -/
def Obligations.GateHandlerReassembles : Prop :=
  ∀ (v : Byte) (h : Word64) (attr : Byte) (s : State),
    s.Quiet → (s.ctx = .main ∨ s.ctx = .interrupt) → s.mem.wf = true →
    ∃ t, exec (.setGate v h attr) s = .next t ∧
      gateHandler (readGate t.mem (s.cfg.idtBase + 16 * v.setWidth 64)) = h ∧
      (readGate t.mem (s.cfg.idtBase + 16 * v.setWidth 64)).typeAttr = attr ∧
      (readGate t.mem (s.cfg.idtBase + 16 * v.setWidth 64)).selector = 0x0008

/-- R161 to R163: after IDT_INIT the vectors 0 to 47 hold gates to their stubs, the other slots are zero, the pointer record
and the table register name the table, and nothing else has changed. -/
def Obligations.IdtInitBuildsTable : Prop :=
  ∀ s : State,
    s.Quiet → s.ctx = .main → s.cpu.ifl = false → s.mem.wf = true → s.cfg.wellFormed = true →
    ∃ t, exec .idtInit s = .next t ∧
      t = { s with
        mem := t.mem
        gateBusy := none
        cpu := { s.cpu with idtr := { limit := 0x0FFF, base := s.cfg.idtBase }, idtLoaded := true } } ∧
      (∀ (v : Byte) (hv : v.toNat < 48) (k : Nat) (hk : k < (descriptorBytes (s.cfg.stub[v.toNat]) 0x8E).length),
        readByte t.mem (byteAt (s.cfg.idtBase + 16 * v.setWidth 64) k) = (descriptorBytes (s.cfg.stub[v.toNat]) 0x8E)[k]) ∧
      (∀ (v : Byte) (k : Nat), 48 ≤ v.toNat → k < 16 →
        readByte t.mem (byteAt (s.cfg.idtBase + 16 * v.setWidth 64) k) = 0) ∧
      (∀ k (hk : k < (pointerBytes s.cfg.idtBase).length),
        readByte t.mem (byteAt s.cfg.idtpAddr k) = (pointerBytes s.cfg.idtBase)[k]) ∧
      ∀ a, ¬ blockAddress s.cfg a → readByte t.mem a = readByte s.mem a

/-- R161, R181, R344: IDT_INIT and PIC_REMAP with interrupts enabled are Fault(LiveInit) before any effect; with them off,
PIC_REMAP with an offset below 32 is Fault(OffsetBelow32) before any port access. -/
def Obligations.InitChecksInOrder : Prop :=
  ∀ (o1 o2 : Byte) (s : State), s.Quiet → s.ctx = .main →
    (s.cpu.ifl = true → exec .idtInit s = .next { s with faults := [.liveInit] }) ∧
    (s.cpu.ifl = true → exec (.picRemap o1 o2) s = .next { s with faults := [.liveInit] }) ∧
    (s.cpu.ifl = false → (o1.toNat < 32 ∨ o2.toNat < 32) →
      exec (.picRemap o1 o2) s = .next { s with faults := [.offsetBelow32] })

/-! ### Interrupt controller driver -/

/-- R181, R128, R356: PIC_REMAP reads both masks, sends the four words to each controller in lock-step, restores the masks
with the timer and keyboard lines unmasked, and records the offsets. -/
def Obligations.PicRemapProgramsControllers : Prop :=
  ∀ (o1 o2 : Byte) (s : State),
    s.Quiet → s.ctx = .main → s.cpu.ifl = false → 32 ≤ o1.toNat → 32 ≤ o2.toNat →
    exec (.picRemap o1 o2) s = .next
      { s with
        pic1 :=
          { imr := s.pic1.imr &&& 0xFC, irr := 0, isr := 0, vbase := o1, initStep := 0,
            needIcw4 := true, icw3 := 0x04, icw4 := 0x01 }
        pic2 :=
          { imr := s.pic2.imr, irr := 0, isr := 0, vbase := o2, initStep := 0,
            needIcw4 := true, icw3 := 0x02, icw4 := 0x01 }
        remap := some { off1 := o1, off2 := o2 }
        history :=
          [.portWrite 0xA1 s.pic2.imr, .portWrite 0x21 (s.pic1.imr &&& 0xFC),
           .portWrite 0xA1 0x01, .portWrite 0x21 0x01, .portWrite 0xA1 0x02, .portWrite 0x21 0x04,
           .portWrite 0xA1 o2, .portWrite 0x21 o1, .portWrite 0xA0 0x11, .portWrite 0x20 0x11,
           .portRead 0xA1 s.pic2.imr, .portRead 0x21 s.pic1.imr] ++ s.history }

/-- R357: the controllers after the boot remap. -/
def Obligations.BootRemapState : Prop :=
  ∀ (m1 m2 : Byte) (s : State),
    s.Quiet → s.ctx = .main → s.cpu.ifl = false → s.pic1.imr = m1 → s.pic2.imr = m2 →
    ∃ t, exec (.picRemap 0x20 0x28) s = .next t ∧
      t.pic1.vbase = 0x20 ∧ t.pic2.vbase = 0x28 ∧ t.pic1.initStep = 0 ∧ t.pic2.initStep = 0 ∧
      t.pic1.imr = m1 &&& 0xFC ∧ t.pic2.imr = m2 ∧
      t.pic1.irr = 0 ∧ t.pic1.isr = 0 ∧ t.pic2.irr = 0 ∧ t.pic2.isr = 0

/-- R185, R356: PIC_EOI acknowledges the secondary first where `line >= 8` (a line >= 16 included), then always the
primary; each acknowledgment clears the lowest-numbered set bit of the in-service register and no other, none where none
is set. -/
def Obligations.PicEoiAcknowledges : Prop :=
  (∀ (line : Byte) (s : State), s.Quiet → s.ctx = .interrupt →
    (line.toNat < 8 → exec (.picEoi line) s = .next
      { s with
        pic1 := { s.pic1 with isr := clearLowest s.pic1.isr }
        history := .portWrite 0x20 0x20 :: s.history }) ∧
    (8 ≤ line.toNat → exec (.picEoi line) s = .next
      { s with
        pic1 := { s.pic1 with isr := clearLowest s.pic1.isr }
        pic2 := { s.pic2 with isr := clearLowest s.pic2.isr }
        history := .portWrite 0x20 0x20 :: .portWrite 0xA0 0x20 :: s.history })) ∧
  ∀ x : Byte,
    (x = 0 → clearLowest x = 0) ∧
    ∀ n : Fin 8, x.getLsbD n = true → (∀ k : Fin 8, k < n → x.getLsbD k = false) →
      ∀ j : Fin 8, (clearLowest x).getLsbD j = (x.getLsbD j && j ≠ n)

/-! ### Dispatcher -/

/-- R203, R204, R206, R208: HANDLE of an exception vector, and of a vector above 47, reports it and does nothing else: no
acknowledgment, `in_irq` false after it. Of the lines 2 to 15 it only acknowledges, the secondary too from line 8. -/
def Obligations.HandleReportsOrAcknowledges : Prop :=
  ∀ (v : Byte) (s : State), s.Quiet → s.ctx = .environment →
    (v.toNat ≤ 31 → exec (.handle v) s = .next { s with inIrq := false, history := .report .exception v :: s.history }) ∧
    (48 ≤ v.toNat → exec (.handle v) s = .next { s with inIrq := false, history := .report .unexpected v :: s.history }) ∧
    (34 ≤ v.toNat → v.toNat ≤ 39 → exec (.handle v) s = .next
      { s with
        inIrq := false
        pic1 := { s.pic1 with isr := clearLowest s.pic1.isr }
        history := .portWrite 0x20 0x20 :: s.history }) ∧
    (40 ≤ v.toNat → v.toNat ≤ 47 → exec (.handle v) s = .next
      { s with
        inIrq := false
        pic1 := { s.pic1 with isr := clearLowest s.pic1.isr }
        pic2 := { s.pic2 with isr := clearLowest s.pic2.isr }
        history := .portWrite 0x20 0x20 :: .portWrite 0xA0 0x20 :: s.history })

/-- R204, R208, R220, R226: HANDLE of the timer line counts one tick, fires the due entries in index order (their
callbacks here issue no request), and acknowledges line 0 after them. -/
def Obligations.HandleTimerLine : Prop :=
  ∀ s : State, s.Quiet → s.ctx = .environment → callbacksSilent s →
    ∃ t, exec (.handle 32) s = .next t ∧
      t.tmo.toList = scanned s.tmo (s.ticks + 1) ∧
      t = { s with
        inIrq := false
        ticks := s.ticks + 1
        tmo := t.tmo
        pic1 := { s.pic1 with isr := clearLowest s.pic1.isr }
        history := .portWrite 0x20 0x20 :: ((scanInvokes s.tmo (s.ticks + 1)).reverse ++ s.history)
        freeCount := s.freeCount + (scanInvokes s.tmo (s.ticks + 1)).length }

/-- R204, R208: HANDLE of the keyboard line runs the intake inside `in_irq` and acknowledges line 1 after it. -/
def Obligations.HandleKeyboardLine : Prop :=
  ∀ s t : State, s.Quiet → s.ctx = .environment →
    intakeOp { s with inIrq := true } = t → t.Quiet →
    exec (.handle 33) s = .next
      { t with
        inIrq := false
        pic1 := { t.pic1 with isr := clearLowest t.pic1.isr }
        history := .portWrite 0x20 0x20 :: t.history }

/-! ### Tick counter and timeouts -/

/-- R220, R221, R226, R232: TICK counts modulo 2^64, then deactivates every entry that is due at the new count and invokes
its callback, in index order; ADVANCE alone does so at the present count. The callbacks here issue no request. -/
def Obligations.TickCountsAndFires : Prop :=
  ∀ s : State, s.Quiet → s.ctx = .interrupt → callbacksSilent s →
    (∃ t, exec .tick s = .next t ∧
      t.tmo.toList = scanned s.tmo (s.ticks + 1) ∧
      t = { s with
        ticks := s.ticks + 1
        tmo := t.tmo
        history := (scanInvokes s.tmo (s.ticks + 1)).reverse ++ s.history
        freeCount := s.freeCount + (scanInvokes s.tmo (s.ticks + 1)).length }) ∧
    ∃ t, exec .advance s = .next t ∧
      t.tmo.toList = scanned s.tmo s.ticks ∧
      t = { s with
        tmo := t.tmo
        history := (scanInvokes s.tmo s.ticks).reverse ++ s.history
        freeCount := s.freeCount + (scanInvokes s.tmo s.ticks).length }

/-- R228, R229, R233: a callback that schedules an entry during the scan of its own slot `i` (the only one due): the
slot is free when the callback runs, so the first free slot `j` is at most `i`; the scan does not come back to it, and
`sched_busy` is not touched. Which reference the operand `cb` denotes is the configuration's (log 7). And R228: a callback
that does not return hangs the scan at its slot `i`, the first due one: no later slot is scanned, due or not. That the
hang is a field of a next state is log 17's choice (DESIGN CHOICE). -/
def Obligations.CallbackSchedulesDuringScan : Prop :=
  (∀ (i j : Fin 16) (cb : Word64) (d : Word64) (s : State),
    s.Quiet → s.ctx = .interrupt → (∀ k : Fin 16, due s.tmo[k] s.ticks = true ↔ k = i) →
    s.cbs.lookup s.tmo[i].cb = some { requests := [encode (.schedule cb d)], returns := true } →
    (j = i ∨ s.tmo[j].active = false) → (∀ k : Fin 16, k < j → s.tmo[k].active = true) → j ≤ i →
    exec .advance s = .next
      { s with
        tmo :=
          (s.tmo.set i { s.tmo[i] with active := false }).set j
            { cb := callbackRef s.cfg cb, target := s.ticks + d, active := true }
        history := .invoke s.tmo[i].cb :: s.history
        freeCount := s.freeCount + 1 }) ∧
  ∀ (i : Fin 16) (s : State),
    s.Quiet → s.ctx = .interrupt → due s.tmo[i] s.ticks = true → (∀ k : Fin 16, k < i → due s.tmo[k] s.ticks = false) →
    s.cbs.lookup s.tmo[i].cb = some { requests := [], returns := false } →
    exec .advance s = .next
      { s with
        tmo := s.tmo.set i { s.tmo[i] with active := false }
        history := .invoke s.tmo[i].cb :: s.history
        freeCount := s.freeCount + 1
        ctx := .callback
        hang := some (.callback s.tmo[i].cb) }

/-- R226, R227, R233: whatever the callbacks do and whatever lands, a scan leaves every armed entry whose target is not
reached exactly as it was. -/
def Obligations.PendingTimeoutSurvivesScan : Prop :=
  ∀ (s t : State) (i : Fin 16), s.ctx = .interrupt → exec .advance s = .next t →
    s.tmo[i].active = true → s.ticks.toNat < s.tmo[i].target.toNat → t.tmo[i] = s.tmo[i]

/-- R230: SCHEDULE arms the first inactive slot with the callback and the target `ticks + d` modulo 2^64; in main context
`sched_busy` is false after it. Which reference the operand `cb` denotes is the configuration's (log 7). -/
def Obligations.ScheduleArmsFirstFreeSlot : Prop :=
  ∀ (cb : Word64) (d : Word64) (i : Fin 16) (s : State),
    s.Quiet → (s.ctx = .main ∨ s.ctx = .callback) →
    s.tmo[i].active = false → (∀ j : Fin 16, j < i → s.tmo[j].active = true) →
    exec (.schedule cb d) s = .next
      { s with
        tmo := s.tmo.set i { cb := callbackRef s.cfg cb, target := s.ticks + d, active := true }
        schedBusy := if s.ctx = .main then false else s.schedBusy }

/-- R231: with no free slot the request leaves no trace. -/
def Obligations.FullTimeoutTableDropsRequest : Prop :=
  ∀ (cb d : Word64) (s : State),
    s.Quiet → (s.ctx = .main ∧ s.schedBusy = false ∨ s.ctx = .callback) → (∀ i : Fin 16, s.tmo[i].active = true) →
    exec (.schedule cb d) s = .next s

/-- R236, D28: `sleep 0` returns at once; any other SLEEP goes to its Halt in main context, with its start recorded, and
is stuck in interrupt context (`hang`; that no step ends a hang is a clause of LedWriteTrace). The positions of a sleeping
main context are the model's own (log 23). -/
def Obligations.SleepChecksBeforeHalting : Prop :=
  ∀ (ms : Word64) (s : State), s.Quiet →
    (ms = 0 → (s.ctx = .main ∨ s.ctx = .interrupt) → exec (.sleep ms) s = .next s) ∧
    (ms ≠ 0 → s.ctx = .main → exec (.sleep ms) s = .next { s with main := .sleepHalt s.ticks ms }) ∧
    (ms ≠ 0 → s.ctx = .interrupt → exec (.sleep ms) s = .next { s with hang := some .sleep })

/-- R236, R237: a sleeping main context, when no stimulus lands: at its check it returns exactly where the ticks counted
since the start, modulo 2^64, are at least `ms`; before its Halt it halts; halted, it has no step (log 23). -/
def Obligations.SleepingMainSteps : Prop :=
  ∀ (s : State) (start ms : Word64), s.Ready → s.inputs = [] →
    (s.main = .sleepCheck start ms → ms.toNat ≤ (s.ticks - start).toNat → step s = .next { s with main := .idle }) ∧
    (s.main = .sleepCheck start ms → (s.ticks - start).toNat < ms.toNat →
      step s = .next { s with main := .sleepHalt start ms }) ∧
    (s.main = .sleepHalt start ms → step s = .next { s with main := .halted start ms }) ∧
    (s.main = .halted start ms → step s = .next s)

/-- R240: UPTIME returns the tick counter and changes nothing else. -/
def Obligations.UptimeReturnsTicks : Prop :=
  ∀ s : State, (s.ctx = .main ∨ s.ctx = .interrupt ∨ s.ctx = .callback) →
    exec .uptime s = .next { s with ret := .ticks s.ticks }

/-- R241: FORMAT returns the one split of `ms` with minutes and seconds below 60 and milliseconds below 1000. -/
def Obligations.FormatSplitsTime : Prop :=
  ∀ (ms : Word64) (s : State), (s.ctx = .main ∨ s.ctx = .interrupt ∨ s.ctx = .callback) →
    ∃ h m sec x, exec (.format ms) s = .next { s with ret := .time h m sec x } ∧
      ms.toNat = ((h * 60 + m) * 60 + sec) * 1000 + x ∧ m < 60 ∧ sec < 60 ∧ x < 1000

/-- R222, R38: only the timer path writes `ticks`: no other request changes it. -/
def Obligations.OnlyTimerPathCounts : Prop :=
  ∀ (i : Instr) (s t : State), s.Quiet → i.op ≠ .tick → i.op ≠ .handle → exec i s = .next t → t.ticks = s.ticks

/-! ### Scancode decoder -/

/-- R260, R89: KBD_INTAKE takes the byte out of the controller and decodes it; with no byte there it decodes some byte
(log 19). -/
def Obligations.KbdIntakeDecodesByte : Prop :=
  ∀ s : State, s.Quiet → s.ctx = .interrupt →
    (∀ b, s.kbc.out = some b →
      ∃ t, exec .kbdIntake s = .next t ∧
        exec (.kbdDecode b)
          { s with kbc := { s.kbc with out := none }, history := .portRead 0x60 b :: s.history } = .next t) ∧
    (s.kbc.out = none →
      ∃ b t, exec .kbdIntake s = .next t ∧
        exec (.kbdDecode b)
          { s with freeCount := s.freeCount + 1, history := .portRead 0x60 b :: s.history } = .next t)

/-- R262 to R265: 0xE1 sets `pause` and nothing else; the byte after it is consumed whatever it is, KEY_PAUSE, and the
transient flags and the frame clear; 0xE0 sets `ext` and goes into the frame, closing a frame of four. -/
def Obligations.KbdPrefixAndPauseBytes : Prop :=
  ∀ (b : Byte) (s : State), s.Quiet → s.ctx = .interrupt →
    (s.dec.pause = true → exec (.kbdDecode b) s = .next
      (afterPush 0x0117 { s with dec := { s.dec with pause := false, ext := false, frameLen := 0 } })) ∧
    (s.dec.pause = false → b = 0xE1 → exec (.kbdDecode b) s = .next { s with dec := { s.dec with pause := true } }) ∧
    (s.dec.pause = false → b = 0xE0 → exec (.kbdDecode b) s = .next
      { s with
        dec :=
          { s.dec with
            ext := true
            frame := s.dec.frame.set s.dec.frameLen 0xE0
            frameLen := if s.dec.frameLen = 3 then 0 else s.dec.frameLen + 1 } })

/-- R264, R277: the byte that completes E0 2A E0 37 is consumed: KEY_PRTSCR, the prefix and the frame clear. -/
def Obligations.KbdPrintScreenPress : Prop :=
  ∀ s : State, s.Quiet → s.ctx = .interrupt → s.dec.pause = false → s.dec.frameLen = 3 →
    s.dec.frame[0] = 0xE0 → s.dec.frame[1] = 0x2A → s.dec.frame[2] = 0xE0 →
    exec (.kbdDecode 0x37) s = .next
      (afterPush 0x0116 { s with dec := { s.dec with ext := false, frame := #v[0xE0, 0x2A, 0xE0, 0x37], frameLen := 0 } })

/-- R264: a frame opens on 0xE0 and takes every byte that reaches step 3; the fourth byte empties it. -/
def Obligations.KbdFrameAccumulates : Prop :=
  ∀ (b : Byte) (s : State), s.Quiet → s.ctx = .interrupt → s.dec.pause = false → b ≠ 0xE1 →
    ∃ t, exec (.kbdDecode b) s = .next t ∧
      (s.dec.frameLen = 0 → b ≠ 0xE0 → t.dec.frameLen = 0 ∧ t.dec.frame = s.dec.frame) ∧
      (s.dec.frameLen = 0 → b = 0xE0 → t.dec.frameLen = 1 ∧ t.dec.frame = s.dec.frame.set 0 b) ∧
      (s.dec.frameLen = 1 → t.dec.frameLen = 2 ∧ t.dec.frame = s.dec.frame.set 1 b) ∧
      (s.dec.frameLen = 2 → t.dec.frameLen = 3 ∧ t.dec.frame = s.dec.frame.set 2 b) ∧
      (s.dec.frameLen = 3 → t.dec.frameLen = 0 ∧ t.dec.frame = s.dec.frame.set 3 b)

/-- R267: a press of an aliased code emits its event, prefix or not. -/
def Obligations.KbdAliasPress : Prop :=
  ∀ (b : Byte) (s : State), s.Quiet → s.ctx = .interrupt → reachesKey b s.dec →
    (b = 0x54 → exec (.kbdDecode b) s = .next (afterPush 0x0118 { s with dec := keyDecoder b s.dec })) ∧
    (b = 0x59 → exec (.kbdDecode b) s = .next (afterPush 0x003D { s with dec := keyDecoder b s.dec }))

/-- R268: a modifier code sets its flag on press and clears it on release, and emits nothing. -/
def Obligations.KbdModifiersAreSticky : Prop :=
  ∀ (b : Byte) (s : State), s.Quiet → s.ctx = .interrupt → reachesKey b s.dec →
    ((b = 0x2A ∨ b = 0x36) → exec (.kbdDecode b) s = .next { s with dec := { keyDecoder b s.dec with shift := true } }) ∧
    ((b = 0xAA ∨ b = 0xB6) → exec (.kbdDecode b) s = .next { s with dec := { keyDecoder b s.dec with shift := false } }) ∧
    (b = 0x1D → exec (.kbdDecode b) s = .next { s with dec := { keyDecoder b s.dec with ctrl := true } }) ∧
    (b = 0x9D → exec (.kbdDecode b) s = .next { s with dec := { keyDecoder b s.dec with ctrl := false } }) ∧
    (b = 0x38 → exec (.kbdDecode b) s = .next { s with dec := { keyDecoder b s.dec with alt := true } }) ∧
    (b = 0xB8 → exec (.kbdDecode b) s = .next { s with dec := { keyDecoder b s.dec with alt := false } })

/-- R269, R280, R394: a lock code's press toggles its flag and writes the LEDs from the new flags; its release does
nothing. With a controller that stays busy the press toggles its flag and hangs at the first poll (how a hang is seen: log
17, a DESIGN CHOICE). That the LEDs show the mask byte is log 25's reading of R394 (DEDUCED). -/
def Obligations.KbdLocksToggleAndWriteLeds : Prop :=
  ∀ (b : Byte) (s : State), s.Quiet → s.ctx = .interrupt → reachesKey b s.dec →
    (∀ n, s.kbc.busy = .reads n →
      (b = 0x3A → exec (.kbdDecode b) s = .next
        (afterLedWrite n { s with dec := { keyDecoder b s.dec with caps := !s.dec.caps } })) ∧
      (b = 0x45 → exec (.kbdDecode b) s = .next
        (afterLedWrite n { s with dec := { keyDecoder b s.dec with num := !s.dec.num } })) ∧
      (b = 0x46 → exec (.kbdDecode b) s = .next
        (afterLedWrite n { s with dec := { keyDecoder b s.dec with scroll := !s.dec.scroll } }))) ∧
    (s.kbc.busy = .forever →
      (b = 0x3A → exec (.kbdDecode b) s = .next
        (afterStuckPoll { s with dec := { keyDecoder b s.dec with caps := !s.dec.caps } })) ∧
      (b = 0x45 → exec (.kbdDecode b) s = .next
        (afterStuckPoll { s with dec := { keyDecoder b s.dec with num := !s.dec.num } })) ∧
      (b = 0x46 → exec (.kbdDecode b) s = .next
        (afterStuckPoll { s with dec := { keyDecoder b s.dec with scroll := !s.dec.scroll } }))) ∧
    ((b = 0xBA ∨ b = 0xC5 ∨ b = 0xC6) → exec (.kbdDecode b) s = .next { s with dec := keyDecoder b s.dec })

/-- R271, R291: after 0xE0 a press that is no alias, modifier or lock emits its extended-table entry, and nothing where the
table has none. -/
def Obligations.KbdExtendedPress : Prop :=
  ∀ (b : Byte) (s : State), s.Quiet → s.ctx = .interrupt → reachesKey b s.dec → s.dec.ext = true →
    b.toNat < 0x80 → b.setWidth 7 ∉ stickyCodes → b ≠ 0x54 → b ≠ 0x59 →
    (∀ e, (b.setWidth 7, e) ∈ extendedRows →
      exec (.kbdDecode b) s = .next (afterPush e { s with dec := keyDecoder b s.dec })) ∧
    ((∀ e, (b.setWidth 7, e) ∉ extendedRows) →
      exec (.kbdDecode b) s = .next { s with dec := keyDecoder b s.dec })

/-- R272, R273, R292, R293: without a prefix, function-key presses emit their events, and keypad presses emit by numlock,
nothing where the entry is 0. -/
def Obligations.KbdFunctionAndKeypadPress : Prop :=
  ∀ (b : Byte) (s : State), s.Quiet → s.ctx = .interrupt → reachesKey b s.dec → s.dec.ext = false → b.toNat < 0x80 →
    (∀ e, (b.setWidth 7, e) ∈ functionRows →
      exec (.kbdDecode b) s = .next (afterPush e { s with dec := keyDecoder b s.dec })) ∧
    (∀ on off, (b.setWidth 7, on, off) ∈ keypadRows →
      exec (.kbdDecode b) s = .next
        (afterEmit (if s.dec.num then on else off) { s with dec := keyDecoder b s.dec }))

/-- R274, R290: every other press emits its entry of the table that `shift xor caps` selects; a code whose entries are 0
emits nothing. The entries are R290's, written out in Safety.lean (`mainRows`). -/
def Obligations.KbdMainTablePress : Prop :=
  ∀ (b : Byte) (s : State), s.Quiet → s.ctx = .interrupt → reachesKey b s.dec → s.dec.ext = false → b.toNat < 0x80 →
    b.setWidth 7 ∉ stickyCodes → b ≠ 0x54 → b ≠ 0x59 →
    (∀ e, (b.setWidth 7, e) ∉ functionRows) → (∀ on off, (b.setWidth 7, on, off) ∉ keypadRows) →
    (∀ plain shifted, (b.setWidth 7, plain, shifted) ∈ mainRows →
      exec (.kbdDecode b) s = .next
        (afterPush (if s.dec.shift ≠ s.dec.caps then shifted else plain) { s with dec := keyDecoder b s.dec })) ∧
    ((∀ plain shifted, (b.setWidth 7, plain, shifted) ∉ mainRows) →
      exec (.kbdDecode b) s = .next { s with dec := keyDecoder b s.dec })

/-- R272: outside a pause sequence a byte with the top bit set (a release, or a prefix) pushes nothing. R266, R267, R271: a
release that reaches step 5 and is of no modifier or lock, an alias included, consumes the prefix and does nothing else;
the frame has taken the byte before (R264). -/
def Obligations.KbdReleaseEmitsNothing : Prop :=
  ∀ (b : Byte) (s : State), s.Quiet → s.ctx = .interrupt → s.dec.pause = false → 0x80 ≤ b.toNat →
    (∃ t, exec (.kbdDecode b) s = .next t ∧ t.rb = s.rb) ∧
    (reachesKey b s.dec → b.setWidth 7 ∉ stickyCodes →
      exec (.kbdDecode b) s = .next { s with dec := keyDecoder b s.dec })

/-- R275: the decoder never emits EV_NONE: a byte leaves the ring as it is or pushes one event that is not 0. -/
def Obligations.KbdNeverEmitsNone : Prop :=
  ∀ (b : Byte) (s : State), s.Quiet → s.ctx = .interrupt →
    ∃ t, exec (.kbdDecode b) s = .next t ∧ (t.rb = s.rb ∨ ∃ e, e ≠ 0 ∧ t.rb = (afterPush e s).rb)

/-- R270: `ctrl` and `alt` change no event: two runs that differ only in them push the same. -/
def Obligations.CtrlAndAltChangeNoEvent : Prop :=
  ∀ (b : Byte) (c a : Bool) (s : State), s.Quiet → s.ctx = .interrupt →
    ∃ t u, exec (.kbdDecode b) s = .next t ∧
      exec (.kbdDecode b) { s with dec := { s.dec with ctrl := c, alt := a } } = .next u ∧
      u.rb = t.rb ∧ u.dec.shift = t.dec.shift ∧ u.dec.caps = t.dec.caps ∧ u.dec.num = t.dec.num ∧
      u.dec.scroll = t.dec.scroll ∧ u.dec.ext = t.dec.ext ∧ u.dec.pause = t.dec.pause ∧
      u.dec.frame = t.dec.frame ∧ u.dec.frameLen = t.dec.frameLen

/-- R45: the four named states, in their precedence. -/
def Obligations.DecoderStateNames : Prop :=
  ∀ d : Decoder,
    (d.pause = true → decoderView d = .pauseSequence) ∧
    (d.pause = false → d.frameLen ≠ 0 → decoderView d = .printScreenFrame) ∧
    (d.pause = false → d.frameLen = 0 → d.ext = true → decoderView d = .extendedPrefix) ∧
    (decoderView d = .idle ↔ d.pause = false ∧ d.frameLen = 0 ∧ d.ext = false)

/-- R280, R282, R394: KBD_LED_WRITE polls until the controller is ready, writes 0xED, polls again and writes the mask of
the lock flags, with a controller that is busy for `n` polls; with one that stays busy it never gets to its first port
write. An interrupt context that hangs, here, in a callback (R228) or in a SLEEP (R236), hangs for ever: each step from it
keeps the hang, takes no request, counts no tick, decodes no byte and pushes no event, runs nothing of main context, and
makes no port access but the poll of the LED write, which finds the controller busy again. That the hang is a next state
after the first poll is log 17's choice (DESIGN CHOICE); that the LEDs show the mask byte is log 25's reading of R394
(DEDUCED). -/
def Obligations.LedWriteTrace : Prop :=
  (∀ (n : Nat) (s : State), s.Quiet → s.ctx = .interrupt →
    (s.kbc.busy = .reads n → exec .kbdLedWrite s = .next (afterLedWrite n s)) ∧
    (s.kbc.busy = .forever → exec .kbdLedWrite s = .next (afterStuckPoll s))) ∧
  ∀ (h : Hang) (s : State), s.cfg.wellFormed = true → s.faults = [] → s.hang = some h →
    ((∀ batch during rest, s.inputs ≠ .stim batch during :: rest) →
      (h ≠ .ledWait → step s = .next s) ∧
      (h = .ledWait → s.kbc.busy = .forever → step s = .next (afterStuckPoll s))) ∧
    ∃ t, step s = .next t ∧ t.hang = some h ∧ t.ctx = s.ctx ∧ t.inIrq = s.inIrq ∧ t.main = s.main ∧ t.ret = s.ret ∧
      t.ticks = s.ticks ∧ t.tmo = s.tmo ∧ t.dec = s.dec ∧ t.rb = s.rb ∧ t.mem = s.mem ∧ t.remap = s.remap ∧
      t.refused = s.refused ∧ t.refusals = s.refusals ∧
      (s.kbc.busy = .forever → t.kbc.busy = .forever) ∧
      (t.inputs = s.inputs ∨
        ∃ batch during rest, s.inputs = .stim batch during :: rest ∧ t.inputs = asInputs during ++ rest) ∧
      (t.history = s.history ∨
        h = .ledWait ∧ ∃ b : Byte, t.history = .portRead 0x64 b :: s.history ∧
          (s.kbc.busy = .forever → b.getLsbD 1 = true))

/-! ### Event ring -/

/-- R321, R323: RB_PUSH stores and publishes the event, or drops it where the ring is full; RB_POP returns EV_NONE where
head equals tail, else the element at tail, and then advances tail. -/
def Obligations.RingPushAndPop : Prop :=
  ∀ (e : Event) (s : State), s.Quiet →
    (s.ctx = .interrupt → exec (.rbPush e) s = .next (afterPush e s)) ∧
    (s.ctx = .main → s.rb.head = s.rb.tail → exec .rbPop s = .next { s with ret := .event 0 }) ∧
    (s.ctx = .main → s.rb.head ≠ s.rb.tail → exec .rbPop s = .next
      { s with rb := { s.rb with tail := s.rb.tail + 1 }, ret := .event (s.rb.buf[s.rb.tail.toNat]'s.rb.tail.isLt) })

/-- R322: full at 255 events, empty where head equals tail, never 256. -/
def Obligations.RingFullness : Prop :=
  ∀ r : EventRing,
    (ringEvents r).length = (r.head.toNat + 256 - r.tail.toNat) % 256 ∧
    (ringFull r ↔ (ringEvents r).length = 255) ∧
    (r.head = r.tail ↔ (ringEvents r).length = 0) ∧
    (ringEvents r).length ≠ 256

/-- R321, R323, R328: the ring refines a queue of at most 255 events: a push appends or is dropped, a pop takes the
oldest. -/
def Obligations.RingRefinesBoundedQueue : Prop :=
  ∀ s : State, s.Quiet →
    (∀ e, s.ctx = .interrupt → ∃ t, exec (.rbPush e) s = .next t ∧
      ringEvents t.rb = if (ringEvents s.rb).length < 255 then ringEvents s.rb ++ [e] else ringEvents s.rb) ∧
    (s.ctx = .main → ringEvents s.rb = [] → ∃ t, exec .rbPop s = .next t ∧ t.ret = .event 0 ∧ ringEvents t.rb = []) ∧
    (∀ e rest, s.ctx = .main → ringEvents s.rb = e :: rest →
      ∃ t, exec .rbPop s = .next t ∧ t.ret = .event e ∧ ringEvents t.rb = rest)

/-- R326: whatever lands at the step boundaries of a pop, it is one whole pop among whole pushes. `u` is the state after
the same stimuli without the pop. Where the ring is empty when the pop looks, the pop returns EV_NONE and releases nothing.
Where it holds an event, the pop returns the oldest, which the pushes that land meanwhile have left in front of what they
queued, and releases it alone, in one step at `u`. -/
def Obligations.PreemptedPopIsWhole : Prop :=
  ∀ s t : State, s.live = true → s.ctx = .main → exec .rbPop s = .next t → t.live = true →
    let u := envM (envM (envM (envM s)))
    (ringEvents s.rb <+: ringEvents (envM s).rb) ∧
    (ringEvents (envM s).rb = [] → t = { envM (envM s) with ret := .event 0 }) ∧
    ∀ e rest, ringEvents (envM s).rb = e :: rest →
      (ringEvents (envM s).rb <+: ringEvents u.rb) ∧ u.rb.tail = s.rb.tail ∧ ringAt u.rb u.rb.tail = e ∧
      t = { envM { u with rb := { u.rb with tail := u.rb.tail + 1 } } with ret := .event e }

/-! ### Delivery -/

/-- R348: the checks of a delivery, in order; each failing check records its fault and nothing else happens. -/
def Obligations.DeliveryChecksInOrder : Prop :=
  ∀ (s : State) (v : Byte) (rest : List Input),
    s.Ready → s.inputs = .stim [.deliver v] [] :: rest → (v.toNat ≤ 31 ∨ s.cpu.ifl = true) →
    (s.inIrq = true → step s = .next { s with inputs := rest, faults := [.reentry] }) ∧
    (s.inIrq = false → s.cpu.idtLoaded = false → step s = .next { s with inputs := rest, faults := [.noIdt] }) ∧
    (s.inIrq = false → s.cpu.idtLoaded = true → s.gateBusy = some v →
      step s = .next { s with inputs := rest, faults := [.gateTear] }) ∧
    (s.inIrq = false → s.cpu.idtLoaded = true → s.gateBusy ≠ some v →
      (s.cpu.idtr.limit.toNat < 16 * v.toNat + 15 ∨
       (readGate s.mem (s.cpu.idtr.base + 16 * v.setWidth 64)).typeAttr ≠ 0x8E ∨
       (readGate s.mem (s.cpu.idtr.base + 16 * v.setWidth 64)).selector ≠ 0x0008) →
      step s = .next { s with inputs := rest, faults := [.unwiredVector] }) ∧
    (s.inIrq = false → s.cpu.idtLoaded = true → s.gateBusy ≠ some v →
      16 * v.toNat + 15 ≤ s.cpu.idtr.limit.toNat →
      (readGate s.mem (s.cpu.idtr.base + 16 * v.setWidth 64)).typeAttr = 0x8E →
      (readGate s.mem (s.cpu.idtr.base + 16 * v.setWidth 64)).selector = 0x0008 →
      (∀ w : Fin 48, s.cfg.stub[w] ≠ gateHandler (readGate s.mem (s.cpu.idtr.base + 16 * v.setWidth 64))) →
      step s = .next { s with inputs := rest, faults := [.unknownStub] }) ∧
    (wiredTo s v 32 → s.schedBusy = true → step s = .next { s with inputs := rest, faults := [.timeoutRace] })

/-- R203, R347, R352, R353: a delivered exception is reported with the vector its stub passes, `cpu.if` is saved and
restored, a halted main context is at its check again (R236), and nothing else changes; main context then continues as EXC_RESUME says for the
vector and the state it interrupted: past the instruction, at it again, or with another program; and an instruction that
is executed again raises the exception again, in the state it first interrupted, after which EXC_RESUME is asked again. The
same inside an operation, here between the steps 1 and 2 of SET_GATE(x), which goes on, or is given up
as it stands. What "again" and "elsewhere" do to an operation in progress is log 22's choice (DESIGN CHOICE); that
EXC_RESUME is asked for the delivered vector `v` is log 38's (DESIGN CHOICE). -/
def Obligations.ExceptionDeliveryReports : Prop :=
  ∀ (s : State) (v w : Byte) (rest : List Input), s.Ready → v.toNat ≤ 31 → wiredTo s v w → w.toNat ≤ 31 →
    (s.inputs = .stim [.deliver v] [] :: rest →
      (resumeAt s.cfg v (restPoint s rest) = .past → step s = .next { afterReport w s with inputs := rest }) ∧
      (resumeAt s.cfg v (restPoint s rest) = .retry →
        step s = .next { afterReport w s with inputs := rest, main := retrying v (restPoint s rest) }) ∧
      (∀ program, resumeAt s.cfg v (restPoint s rest) = .elsewhere program →
        step s = .next { afterReport w s with inputs := program, main := .idle })) ∧
    (∀ p : MainPoint, s.main = retrying v p → s.inputs = [] →
      (resumeAt s.cfg v p = .past → step s = .next { afterReport w s with main := .idle }) ∧
      (resumeAt s.cfg v p = .retry → step s = .next (afterReport w s)) ∧
      (∀ program, resumeAt s.cfg v p = .elsewhere program →
        step s = .next { afterReport w s with inputs := program, main := .idle })) ∧
    (∀ (x : Byte) (h : Word64) (attr : Byte), x ≠ v → s.main = .idle →
      s.inputs = .request .main (encode (.setGate x h attr)) [[.deliver v]] :: rest →
      let p : MainPoint := { ctl := .idle, op := some (.setGate x h attr), passed := 1, next := rest }
      (resumeAt s.cfg v p = .past →
        step s = step { afterReport w s with inputs := .request .main (encode (.setGate x h attr)) [] :: rest }) ∧
      (resumeAt s.cfg v p = .retry →
        step s = .next { afterReport w s with inputs := rest, gateBusy := some x, main := retrying v p }) ∧
      (∀ program, resumeAt s.cfg v p = .elsewhere program →
        step s = .next { afterReport w s with inputs := program, gateBusy := some x, main := .idle }))

/-- R348, R352, R353: a delivery that passes the checks, of any vector, saves and clears `cpu.if`, runs HANDLE of the vector
the stub passes under the stimuli that land inside it, and restores `cpu.if`; a halted main context goes on at its check
(R236), any other where it stood (after an exception: where EXC_RESUME says so, log 37 and 38). Stimuli left over land next
(log 9). -/
def Obligations.DeliveryEntersHandlesReturns : Prop :=
  ∀ (s u : State) (v w : Byte) (during : List (List Stimulus)) (rest : List Input),
    s.Ready → s.inputs = .stim [.deliver v] during :: rest → wiredTo s v w → (w = 32 → s.schedBusy = false) →
    (v.toNat ≤ 31 ∧ resumeAt s.cfg v (restPoint s rest) = .past ∨ 32 ≤ v.toNat ∧ s.cpu.ifl = true) →
    handleOp w
      { s with
        inputs := rest
        script := during
        cpu := { s.cpu with savedIf := s.cpu.ifl, ifl := false }
        ctx := .interrupt } = u →
    u.live = true →
    ∃ m, step s = .next
        { u with
          inputs := asInputs u.script ++ rest
          script := []
          cpu := { u.cpu with ifl := s.cpu.ifl }
          ctx := .main
          main := m } ∧
      (∀ start ms, s.main = .halted start ms → m = .sleepCheck start ms) ∧
      ((∀ start ms, s.main ≠ .halted start ms) → m = s.main)

/-- R348, R349: with `cpu.if` false no maskable vector is delivered and the CPU takes no request of the controllers;
the stimulus has no effect (log 10, 12). -/
def Obligations.MaskedInterruptsWait : Prop :=
  ∀ (s : State) (v : Byte) (during : List (List Stimulus)) (rest : List Input), s.Ready → s.cpu.ifl = false →
    (s.inputs = .stim [.deliver v] during :: rest → 32 ≤ v.toNat →
      step s = .next { s with inputs := asInputs during ++ rest }) ∧
    (s.inputs = .stim [.take] during :: rest → step s = .next { s with inputs := asInputs during ++ rest })

/-- R349 step 1, R49, R136: what the environment's stimuli do at a boundary of main context, halted or not: `cli` and `sti`
clear and set `cpu.if`, `irq` sets the line's request bit at the primary or the secondary, `kbd` puts its byte at KBD_DATA,
`mask` sets the masks, `kbc_busy` the reads that answer busy (a stuck controller stays so: log 17); nothing else changes.
`cli` and `sti` do the same at a boundary inside interrupt context. A batch that asks for no delivery does all of it, in its
order (`landed`), at a boundary of main context, at one inside interrupt context, and in an interrupt context that has
hung; there an exception or NMI after it is Fault(Reentry) (R355).

Of this the model's own, not the spec's: that stimuli come as inputs and scripts is log 8 and 9 (DESIGN CHOICE); that `cli`,
`sti` and batches land at boundaries inside interrupt context is log 34 (DEDUCED); that a hung context takes a whole batch,
until a delivery in it faults, and the stimulus `kbcStuck` and what it does to `kbc_busy`, are log 17 (DESIGN CHOICE); the
stimulus `kbdStatus` in `landed` is log 36 (DESIGN CHOICE), the callback's text that `cb` gives log 18 (DESIGN CHOICE). -/
def Obligations.StimuliSetFlagAndRequestBits : Prop :=
  (∀ (s : State) (xs : List Stimulus) (during : List (List Stimulus)) (rest : List Input),
    (∀ x ∈ xs, deliversNothing x = true) →
    (s.Ready → s.inputs = .stim xs during :: rest →
      step s = .next (landed xs { s with inputs := asInputs during ++ rest })) ∧
    (s.live = true → s.script = xs :: during → envI s = landed xs { s with script := during }) ∧
    (∀ h, s.cfg.wellFormed = true → s.faults = [] → s.hang = some h →
      (s.inputs = .stim xs during :: rest → step s = .next (landed xs { s with inputs := asInputs during ++ rest })) ∧
      ∀ v, v.toNat ≤ 31 → s.inputs = .stim (xs ++ [.deliver v]) during :: rest →
        step s = .next { landed xs { s with inputs := asInputs during ++ rest } with faults := [.reentry] })) ∧
  ∀ (s : State) (x : Stimulus) (during : List (List Stimulus)) (rest : List Input),
    (s.Ready → s.inputs = .stim [x] during :: rest →
      (x = .cli → step s = .next { s with inputs := asInputs during ++ rest, cpu := { s.cpu with ifl := false } }) ∧
      (x = .sti → step s = .next { s with inputs := asInputs during ++ rest, cpu := { s.cpu with ifl := true } }) ∧
      (∀ l : Fin 16, l.val < 8 → x = .irq l → step s = .next
        { s with inputs := asInputs during ++ rest, pic1 := { s.pic1 with irr := s.pic1.irr ||| (1#8 <<< l.val) } }) ∧
      (∀ l : Fin 16, 8 ≤ l.val → x = .irq l → step s = .next
        { s with
          inputs := asInputs during ++ rest
          pic2 := { s.pic2 with irr := s.pic2.irr ||| (1#8 <<< (l.val - 8)) } }) ∧
      (∀ b, x = .kbd b → step s = .next
        { s with inputs := asInputs during ++ rest, kbc := { s.kbc with out := some b } }) ∧
      (∀ m1 m2, x = .mask m1 m2 → step s = .next
        { s with
          inputs := asInputs during ++ rest
          pic1 := { s.pic1 with imr := m1 }
          pic2 := { s.pic2 with imr := m2 } }) ∧
      (∀ n, x = .kbcBusy n → s.kbc.busy ≠ .forever → step s = .next
        { s with inputs := asInputs during ++ rest, kbc := { s.kbc with busy := .reads n } })) ∧
    (s.live = true → s.script = [x] :: during →
      (x = .cli → envI s = { s with script := during, cpu := { s.cpu with ifl := false } }) ∧
      (x = .sti → envI s = { s with script := during, cpu := { s.cpu with ifl := true } }))

/-- R349: the CPU takes the lowest-numbered ready line of the primary, or, through input 2, of the secondary: its request
bit is cleared, its in-service bit set, and its vector delivered (the taking as a stimulus: log 10). Primary bit 2 is
ready only through the secondary; where nothing is ready nothing is taken. And R358 items 1 and 2, as log 11 reads them
(DEDUCED): of what lands at one boundary of main context an exception or NMI is taken before a maskable interrupt, and an
exception before the NMI, wherever in the batch it stands. -/
def Obligations.TakeDeliversHighestPriority : Prop :=
  (∀ (s : State) (n : Fin 8) (during : List (List Stimulus)) (rest : List Input),
    s.Ready → s.cpu.ifl = true → s.inputs = .stim [.take] during :: rest →
    (n ≠ 2 → lineReady s.pic1 n → (∀ k : Fin 8, k < n → k ≠ 2 → ¬ lineReady s.pic1 k) →
      (2 < n → (∀ m : Fin 8, ¬ lineReady s.pic2 m) ∨ s.pic1.imr.getLsbD 2 = true) →
      32 ≤ ((s.pic1.vbase &&& 0xF8) ||| BitVec.ofNat 8 n).toNat →
      step s = step
        { s with
          pic1 := lineTaken s.pic1 n
          inputs := .stim [.deliver ((s.pic1.vbase &&& 0xF8) ||| BitVec.ofNat 8 n)] during :: rest }) ∧
    (lineReady s.pic2 n → (∀ k : Fin 8, k < n → ¬ lineReady s.pic2 k) →
      s.pic1.imr.getLsbD 2 = false → (∀ k : Fin 8, k ≤ 2 → s.pic1.isr.getLsbD k = false) →
      ¬ lineReady s.pic1 0 → ¬ lineReady s.pic1 1 → 32 ≤ ((s.pic2.vbase &&& 0xF8) ||| BitVec.ofNat 8 n).toNat →
      step s = step
        { s with
          pic1 := lineTaken s.pic1 2
          pic2 := lineTaken s.pic2 n
          inputs := .stim [.deliver ((s.pic2.vbase &&& 0xF8) ||| BitVec.ofNat 8 n)] during :: rest }) ∧
    ((∀ k : Fin 8, k ≠ 2 → ¬ lineReady s.pic1 k) →
      ((∀ m : Fin 8, ¬ lineReady s.pic2 m) ∨ s.pic1.imr.getLsbD 2 = true ∨
        ∃ k : Fin 8, k ≤ 2 ∧ s.pic1.isr.getLsbD k = true) →
      step s = .next { s with inputs := asInputs during ++ rest })) ∧
  (∀ (s : State) (v w : Byte) (x : Stimulus) (rest : List Input),
    s.Ready → v.toNat ≤ 31 → takenAfter v x = true → s.inputs = .stim [x, .deliver v] [] :: rest →
    wiredTo s v w → w.toNat ≤ 31 → resumeAt s.cfg v (restPoint s rest) = .past →
    step s = step { afterReport w s with inputs := .stim [x] [] :: rest }) ∧
  ∀ (s : State) (v : Byte) (x : Stimulus) (pre mid post : List Stimulus) (during : List (List Stimulus))
    (rest : List Input),
    v.toNat ≤ 31 → (∀ y ∈ pre, deliversNothing y = true) → takenAfter v x = true →
    (∀ y ∈ mid, deliversNothing y = true ∨ takenAfter v y = true) →
    (s.hang = none → s.inputs = .stim (pre ++ x :: (mid ++ .deliver v :: post)) during :: rest →
      step s = step { s with inputs := .stim (pre ++ .deliver v :: x :: (mid ++ post)) during :: rest }) ∧
    (s.script = (pre ++ x :: (mid ++ .deliver v :: post)) :: during →
      envM s = envM { s with script := (pre ++ .deliver v :: x :: (mid ++ post)) :: during })

/-- R202, R355, R390, R392: a delivery that lands inside an operation, at whichever of its step boundaries: the timer's
inside a main-context SCHEDULE is Fault(TimeoutRace), at the first boundary with no slot written; that of `x` inside
SET_GATE(x) is Fault(GateTear), at the first boundary with no byte of the gate written; an exception or NMI inside HANDLE
is Fault(Reentry), whatever HANDLE was doing. `k` empty batches and the delivery are the script (log 9); that the script
was used up says that the boundary was reached. What lands inside interrupt context is log 34's. -/
def Obligations.DeliveryInsideOperationFaults : Prop :=
  ∀ (v x : Byte) (cb d h : Word64) (attr : Byte) (k : Nat) (s : State),
    s.live = true → s.script = List.replicate k [] ++ [[.deliver x]] →
    (s.ctx = .main → (x.toNat ≤ 31 ∨ s.cpu.ifl = true) → wiredTo s x 32 →
      (k = 0 → exec (.schedule cb d) s = .next
        { s with script := [], passed := s.passed + 1, schedBusy := true, faults := [.timeoutRace] }) ∧
      ∀ t, exec (.schedule cb d) s = .next t → t.script = [] → t.faults = [.timeoutRace] ∧ t.schedBusy = true) ∧
    (s.ctx = .main → (x.toNat ≤ 31 ∨ s.cpu.ifl = true) → s.inIrq = false → s.cpu.idtLoaded = true →
      (k = 0 → exec (.setGate x h attr) s = .next
        { s with script := [], passed := s.passed + 1, gateBusy := some x, faults := [.gateTear] }) ∧
      ∀ t, exec (.setGate x h attr) s = .next t → t.script = [] → t.faults = [.gateTear] ∧ t.gateBusy = some x) ∧
    (s.ctx = .environment → x.toNat ≤ 31 →
      (k = 0 → exec (.handle v) s = .next { s with script := [], inIrq := true, faults := [.reentry] }) ∧
      ∀ t, exec (.handle v) s = .next t → t.script = [] → t.faults = [.reentry] ∧ t.inIrq = true)

/-! ### Whole-machine rules -/

/-- R380: the reset state, for every configuration and every draw of what the spec leaves unspecified. -/
def Obligations.ResetState : Prop :=
  ∀ (c : Config) (d : Draw),
    let s := State.resetWith c d
    s.gateBusy = none ∧ s.remap = none ∧ s.inIrq = false ∧ s.ticks = 0 ∧ (∀ i : Fin 16, s.tmo[i].active = false) ∧
    s.schedBusy = false ∧ s.dec.shift = false ∧ s.dec.ctrl = false ∧ s.dec.alt = false ∧ s.dec.caps = false ∧
    s.dec.num = false ∧ s.dec.scroll = false ∧ s.dec.ext = false ∧ s.dec.pause = false ∧ s.dec.frameLen = 0 ∧
    s.rb.head = 0 ∧ s.rb.tail = 0 ∧ s.faults = [] ∧ s.refused = false ∧ s.cpu.idtLoaded = false ∧ s.cpu.ifl = false ∧
    s.pic1.isr = 0 ∧ s.pic2.isr = 0 ∧ s.pic1.initStep = 0 ∧ s.pic2.initStep = 0 ∧
    s.mem = d.mem ∧ s.dec.frame = d.frame ∧ s.rb.buf = d.buf ∧ s.cpu.idtr = d.idtr ∧ s.kbc = d.kbc ∧
    (∀ i : Fin 16, s.tmo[i].cb = d.slots[i].1 ∧ s.tmo[i].target = d.slots[i].2) ∧
    s.pic1.imr = d.imr1 ∧ s.pic2.imr = d.imr2 ∧ s.pic1.irr = d.irr1 ∧ s.pic2.irr = d.irr2 ∧
    s.pic1.vbase = d.vbase1 ∧ s.pic2.vbase = d.vbase2

/-- The invariant holds after reset, for every configuration and every draw whose memory is canonical (log 1: the
form is the model's). -/
def Obligations.ResetHasInvariant : Prop :=
  State.reset.Inv ∧ ∀ (c : Config) (d : Draw), d.mem.wf = true → (State.resetWith c d).Inv

/-- Every step keeps the invariant (R35, R37, R40, R344, R356), whatever the stimuli, the callbacks and the configuration:
memory stays canonical, at most one fault is recorded, each step ends in main context with no operation under way, and,
where EXC_RESUME never sends main context away from an operation, no operation leaves its bookkeeping set. Memory's form,
the moment a fault is seen and what EXC_RESUME gives up are the model's (log 1, 13, 22). -/
def Obligations.StepKeepsInvariant : Prop :=
  ∀ s t : State, s.Inv → step s = .next t → t.Inv

/-- R80, R11: whatever lands in it, no request changes a byte of memory outside the table and the pointer record. -/
def Obligations.WritesStayInTableAndPointer : Prop :=
  ∀ (i : Instr) (s t : State), s.mem.wf = true → exec i s = .next t →
    ∀ a, ¬ blockAddress s.cfg a → readByte t.mem a = readByte s.mem a

/-- R47: no step clears the `refused` mark. -/
def Obligations.RefusedMarkStays : Prop :=
  ∀ s t : State, step s = .next t → s.refused = true → t.refused = true
end

