-- ==== Sys2Proof/Laws/State.lean ====
section
/-! SUPPORT. One lemma per field of the state for each named update, true by rfl; and how `andThen` goes on. -/

namespace Sys2Proof.Machine

open Sys2Proof

/-! ### raise (R14) -/

@[simp] theorem State.raise_cfg (s : State) (f : Fault) : (s.raise f).cfg = s.cfg := rfl
@[simp] theorem State.raise_mem (s : State) (f : Fault) : (s.raise f).mem = s.mem := rfl
@[simp] theorem State.raise_gateBusy (s : State) (f : Fault) : (s.raise f).gateBusy = s.gateBusy := rfl
@[simp] theorem State.raise_remap (s : State) (f : Fault) : (s.raise f).remap = s.remap := rfl
@[simp] theorem State.raise_inIrq (s : State) (f : Fault) : (s.raise f).inIrq = s.inIrq := rfl
@[simp] theorem State.raise_ticks (s : State) (f : Fault) : (s.raise f).ticks = s.ticks := rfl
@[simp] theorem State.raise_tmo (s : State) (f : Fault) : (s.raise f).tmo = s.tmo := rfl
@[simp] theorem State.raise_schedBusy (s : State) (f : Fault) : (s.raise f).schedBusy = s.schedBusy := rfl
@[simp] theorem State.raise_dec (s : State) (f : Fault) : (s.raise f).dec = s.dec := rfl
@[simp] theorem State.raise_rb (s : State) (f : Fault) : (s.raise f).rb = s.rb := rfl
@[simp] theorem State.raise_faults (s : State) (f : Fault) : (s.raise f).faults = f :: s.faults := rfl
@[simp] theorem State.raise_refused (s : State) (f : Fault) : (s.raise f).refused = s.refused := rfl
@[simp] theorem State.raise_cpu (s : State) (f : Fault) : (s.raise f).cpu = s.cpu := rfl
@[simp] theorem State.raise_pic1 (s : State) (f : Fault) : (s.raise f).pic1 = s.pic1 := rfl
@[simp] theorem State.raise_pic2 (s : State) (f : Fault) : (s.raise f).pic2 = s.pic2 := rfl
@[simp] theorem State.raise_kbc (s : State) (f : Fault) : (s.raise f).kbc = s.kbc := rfl
@[simp] theorem State.raise_refusals (s : State) (f : Fault) : (s.raise f).refusals = s.refusals := rfl
@[simp] theorem State.raise_history (s : State) (f : Fault) : (s.raise f).history = s.history := rfl
@[simp] theorem State.raise_ret (s : State) (f : Fault) : (s.raise f).ret = s.ret := rfl
@[simp] theorem State.raise_ctx (s : State) (f : Fault) : (s.raise f).ctx = s.ctx := rfl
@[simp] theorem State.raise_main (s : State) (f : Fault) : (s.raise f).main = s.main := rfl
@[simp] theorem State.raise_hang (s : State) (f : Fault) : (s.raise f).hang = s.hang := rfl
@[simp] theorem State.raise_cbs (s : State) (f : Fault) : (s.raise f).cbs = s.cbs := rfl
@[simp] theorem State.raise_inputs (s : State) (f : Fault) : (s.raise f).inputs = s.inputs := rfl
@[simp] theorem State.raise_script (s : State) (f : Fault) : (s.raise f).script = s.script := rfl
@[simp] theorem State.raise_running (s : State) (f : Fault) : (s.raise f).running = s.running := rfl
@[simp] theorem State.raise_passed (s : State) (f : Fault) : (s.raise f).passed = s.passed := rfl
@[simp] theorem State.raise_redirect (s : State) (f : Fault) : (s.raise f).redirect = s.redirect := rfl
@[simp] theorem State.raise_freeCount (s : State) (f : Fault) : (s.raise f).freeCount = s.freeCount := rfl

/-! ### refuse (R343) -/

@[simp] theorem State.refuse_cfg (s : State) (r : Refuse) : (s.refuse r).cfg = s.cfg := rfl
@[simp] theorem State.refuse_mem (s : State) (r : Refuse) : (s.refuse r).mem = s.mem := rfl
@[simp] theorem State.refuse_gateBusy (s : State) (r : Refuse) : (s.refuse r).gateBusy = s.gateBusy := rfl
@[simp] theorem State.refuse_remap (s : State) (r : Refuse) : (s.refuse r).remap = s.remap := rfl
@[simp] theorem State.refuse_inIrq (s : State) (r : Refuse) : (s.refuse r).inIrq = s.inIrq := rfl
@[simp] theorem State.refuse_ticks (s : State) (r : Refuse) : (s.refuse r).ticks = s.ticks := rfl
@[simp] theorem State.refuse_tmo (s : State) (r : Refuse) : (s.refuse r).tmo = s.tmo := rfl
@[simp] theorem State.refuse_schedBusy (s : State) (r : Refuse) : (s.refuse r).schedBusy = s.schedBusy := rfl
@[simp] theorem State.refuse_dec (s : State) (r : Refuse) : (s.refuse r).dec = s.dec := rfl
@[simp] theorem State.refuse_rb (s : State) (r : Refuse) : (s.refuse r).rb = s.rb := rfl
@[simp] theorem State.refuse_faults (s : State) (r : Refuse) : (s.refuse r).faults = s.faults := rfl
@[simp] theorem State.refuse_refused (s : State) (r : Refuse) : (s.refuse r).refused = true := rfl
@[simp] theorem State.refuse_cpu (s : State) (r : Refuse) : (s.refuse r).cpu = s.cpu := rfl
@[simp] theorem State.refuse_pic1 (s : State) (r : Refuse) : (s.refuse r).pic1 = s.pic1 := rfl
@[simp] theorem State.refuse_pic2 (s : State) (r : Refuse) : (s.refuse r).pic2 = s.pic2 := rfl
@[simp] theorem State.refuse_kbc (s : State) (r : Refuse) : (s.refuse r).kbc = s.kbc := rfl
@[simp] theorem State.refuse_refusals (s : State) (r : Refuse) : (s.refuse r).refusals = r :: s.refusals := rfl
@[simp] theorem State.refuse_history (s : State) (r : Refuse) : (s.refuse r).history = s.history := rfl
@[simp] theorem State.refuse_ret (s : State) (r : Refuse) : (s.refuse r).ret = s.ret := rfl
@[simp] theorem State.refuse_ctx (s : State) (r : Refuse) : (s.refuse r).ctx = s.ctx := rfl
@[simp] theorem State.refuse_main (s : State) (r : Refuse) : (s.refuse r).main = s.main := rfl
@[simp] theorem State.refuse_hang (s : State) (r : Refuse) : (s.refuse r).hang = s.hang := rfl
@[simp] theorem State.refuse_cbs (s : State) (r : Refuse) : (s.refuse r).cbs = s.cbs := rfl
@[simp] theorem State.refuse_inputs (s : State) (r : Refuse) : (s.refuse r).inputs = s.inputs := rfl
@[simp] theorem State.refuse_script (s : State) (r : Refuse) : (s.refuse r).script = s.script := rfl
@[simp] theorem State.refuse_running (s : State) (r : Refuse) : (s.refuse r).running = s.running := rfl
@[simp] theorem State.refuse_passed (s : State) (r : Refuse) : (s.refuse r).passed = s.passed := rfl
@[simp] theorem State.refuse_redirect (s : State) (r : Refuse) : (s.refuse r).redirect = s.redirect := rfl
@[simp] theorem State.refuse_freeCount (s : State) (r : Refuse) : (s.refuse r).freeCount = s.freeCount := rfl

/-! ### log (R205) -/

@[simp] theorem State.log_cfg (s : State) (e : IoEvent) : (s.log e).cfg = s.cfg := rfl
@[simp] theorem State.log_mem (s : State) (e : IoEvent) : (s.log e).mem = s.mem := rfl
@[simp] theorem State.log_gateBusy (s : State) (e : IoEvent) : (s.log e).gateBusy = s.gateBusy := rfl
@[simp] theorem State.log_remap (s : State) (e : IoEvent) : (s.log e).remap = s.remap := rfl
@[simp] theorem State.log_inIrq (s : State) (e : IoEvent) : (s.log e).inIrq = s.inIrq := rfl
@[simp] theorem State.log_ticks (s : State) (e : IoEvent) : (s.log e).ticks = s.ticks := rfl
@[simp] theorem State.log_tmo (s : State) (e : IoEvent) : (s.log e).tmo = s.tmo := rfl
@[simp] theorem State.log_schedBusy (s : State) (e : IoEvent) : (s.log e).schedBusy = s.schedBusy := rfl
@[simp] theorem State.log_dec (s : State) (e : IoEvent) : (s.log e).dec = s.dec := rfl
@[simp] theorem State.log_rb (s : State) (e : IoEvent) : (s.log e).rb = s.rb := rfl
@[simp] theorem State.log_faults (s : State) (e : IoEvent) : (s.log e).faults = s.faults := rfl
@[simp] theorem State.log_refused (s : State) (e : IoEvent) : (s.log e).refused = s.refused := rfl
@[simp] theorem State.log_cpu (s : State) (e : IoEvent) : (s.log e).cpu = s.cpu := rfl
@[simp] theorem State.log_pic1 (s : State) (e : IoEvent) : (s.log e).pic1 = s.pic1 := rfl
@[simp] theorem State.log_pic2 (s : State) (e : IoEvent) : (s.log e).pic2 = s.pic2 := rfl
@[simp] theorem State.log_kbc (s : State) (e : IoEvent) : (s.log e).kbc = s.kbc := rfl
@[simp] theorem State.log_refusals (s : State) (e : IoEvent) : (s.log e).refusals = s.refusals := rfl
@[simp] theorem State.log_history (s : State) (e : IoEvent) : (s.log e).history = e :: s.history := rfl
@[simp] theorem State.log_ret (s : State) (e : IoEvent) : (s.log e).ret = s.ret := rfl
@[simp] theorem State.log_ctx (s : State) (e : IoEvent) : (s.log e).ctx = s.ctx := rfl
@[simp] theorem State.log_main (s : State) (e : IoEvent) : (s.log e).main = s.main := rfl
@[simp] theorem State.log_hang (s : State) (e : IoEvent) : (s.log e).hang = s.hang := rfl
@[simp] theorem State.log_cbs (s : State) (e : IoEvent) : (s.log e).cbs = s.cbs := rfl
@[simp] theorem State.log_inputs (s : State) (e : IoEvent) : (s.log e).inputs = s.inputs := rfl
@[simp] theorem State.log_script (s : State) (e : IoEvent) : (s.log e).script = s.script := rfl
@[simp] theorem State.log_running (s : State) (e : IoEvent) : (s.log e).running = s.running := rfl
@[simp] theorem State.log_passed (s : State) (e : IoEvent) : (s.log e).passed = s.passed := rfl
@[simp] theorem State.log_redirect (s : State) (e : IoEvent) : (s.log e).redirect = s.redirect := rfl
@[simp] theorem State.log_freeCount (s : State) (e : IoEvent) : (s.log e).freeCount = s.freeCount := rfl

/-! ### setSlot (R230) -/

@[simp] theorem State.setSlot_cfg (s : State) (i : Fin 16) (t : Timeout) : (s.setSlot i t).cfg = s.cfg := rfl
@[simp] theorem State.setSlot_mem (s : State) (i : Fin 16) (t : Timeout) : (s.setSlot i t).mem = s.mem := rfl
@[simp] theorem State.setSlot_gateBusy (s : State) (i : Fin 16) (t : Timeout) : (s.setSlot i t).gateBusy = s.gateBusy := rfl
@[simp] theorem State.setSlot_remap (s : State) (i : Fin 16) (t : Timeout) : (s.setSlot i t).remap = s.remap := rfl
@[simp] theorem State.setSlot_inIrq (s : State) (i : Fin 16) (t : Timeout) : (s.setSlot i t).inIrq = s.inIrq := rfl
@[simp] theorem State.setSlot_ticks (s : State) (i : Fin 16) (t : Timeout) : (s.setSlot i t).ticks = s.ticks := rfl
@[simp] theorem State.setSlot_tmo (s : State) (i : Fin 16) (t : Timeout) : (s.setSlot i t).tmo = s.tmo.set i t := rfl
@[simp] theorem State.setSlot_schedBusy (s : State) (i : Fin 16) (t : Timeout) : (s.setSlot i t).schedBusy = s.schedBusy := rfl
@[simp] theorem State.setSlot_dec (s : State) (i : Fin 16) (t : Timeout) : (s.setSlot i t).dec = s.dec := rfl
@[simp] theorem State.setSlot_rb (s : State) (i : Fin 16) (t : Timeout) : (s.setSlot i t).rb = s.rb := rfl
@[simp] theorem State.setSlot_faults (s : State) (i : Fin 16) (t : Timeout) : (s.setSlot i t).faults = s.faults := rfl
@[simp] theorem State.setSlot_refused (s : State) (i : Fin 16) (t : Timeout) : (s.setSlot i t).refused = s.refused := rfl
@[simp] theorem State.setSlot_cpu (s : State) (i : Fin 16) (t : Timeout) : (s.setSlot i t).cpu = s.cpu := rfl
@[simp] theorem State.setSlot_pic1 (s : State) (i : Fin 16) (t : Timeout) : (s.setSlot i t).pic1 = s.pic1 := rfl
@[simp] theorem State.setSlot_pic2 (s : State) (i : Fin 16) (t : Timeout) : (s.setSlot i t).pic2 = s.pic2 := rfl
@[simp] theorem State.setSlot_kbc (s : State) (i : Fin 16) (t : Timeout) : (s.setSlot i t).kbc = s.kbc := rfl
@[simp] theorem State.setSlot_refusals (s : State) (i : Fin 16) (t : Timeout) : (s.setSlot i t).refusals = s.refusals := rfl
@[simp] theorem State.setSlot_history (s : State) (i : Fin 16) (t : Timeout) : (s.setSlot i t).history = s.history := rfl
@[simp] theorem State.setSlot_ret (s : State) (i : Fin 16) (t : Timeout) : (s.setSlot i t).ret = s.ret := rfl
@[simp] theorem State.setSlot_ctx (s : State) (i : Fin 16) (t : Timeout) : (s.setSlot i t).ctx = s.ctx := rfl
@[simp] theorem State.setSlot_main (s : State) (i : Fin 16) (t : Timeout) : (s.setSlot i t).main = s.main := rfl
@[simp] theorem State.setSlot_hang (s : State) (i : Fin 16) (t : Timeout) : (s.setSlot i t).hang = s.hang := rfl
@[simp] theorem State.setSlot_cbs (s : State) (i : Fin 16) (t : Timeout) : (s.setSlot i t).cbs = s.cbs := rfl
@[simp] theorem State.setSlot_inputs (s : State) (i : Fin 16) (t : Timeout) : (s.setSlot i t).inputs = s.inputs := rfl
@[simp] theorem State.setSlot_script (s : State) (i : Fin 16) (t : Timeout) : (s.setSlot i t).script = s.script := rfl
@[simp] theorem State.setSlot_running (s : State) (i : Fin 16) (t : Timeout) : (s.setSlot i t).running = s.running := rfl
@[simp] theorem State.setSlot_passed (s : State) (i : Fin 16) (t : Timeout) : (s.setSlot i t).passed = s.passed := rfl
@[simp] theorem State.setSlot_redirect (s : State) (i : Fin 16) (t : Timeout) : (s.setSlot i t).redirect = s.redirect := rfl
@[simp] theorem State.setSlot_freeCount (s : State) (i : Fin 16) (t : Timeout) : (s.setSlot i t).freeCount = s.freeCount := rfl

/-! ### enter (R352) -/

@[simp] theorem State.enter_cfg (s : State) : s.enter.cfg = s.cfg := rfl
@[simp] theorem State.enter_mem (s : State) : s.enter.mem = s.mem := rfl
@[simp] theorem State.enter_gateBusy (s : State) : s.enter.gateBusy = s.gateBusy := rfl
@[simp] theorem State.enter_remap (s : State) : s.enter.remap = s.remap := rfl
@[simp] theorem State.enter_inIrq (s : State) : s.enter.inIrq = s.inIrq := rfl
@[simp] theorem State.enter_ticks (s : State) : s.enter.ticks = s.ticks := rfl
@[simp] theorem State.enter_tmo (s : State) : s.enter.tmo = s.tmo := rfl
@[simp] theorem State.enter_schedBusy (s : State) : s.enter.schedBusy = s.schedBusy := rfl
@[simp] theorem State.enter_dec (s : State) : s.enter.dec = s.dec := rfl
@[simp] theorem State.enter_rb (s : State) : s.enter.rb = s.rb := rfl
@[simp] theorem State.enter_faults (s : State) : s.enter.faults = s.faults := rfl
@[simp] theorem State.enter_refused (s : State) : s.enter.refused = s.refused := rfl
@[simp] theorem State.enter_cpu (s : State) : s.enter.cpu = { s.cpu with savedIf := s.cpu.ifl, ifl := false } := rfl
@[simp] theorem State.enter_pic1 (s : State) : s.enter.pic1 = s.pic1 := rfl
@[simp] theorem State.enter_pic2 (s : State) : s.enter.pic2 = s.pic2 := rfl
@[simp] theorem State.enter_kbc (s : State) : s.enter.kbc = s.kbc := rfl
@[simp] theorem State.enter_refusals (s : State) : s.enter.refusals = s.refusals := rfl
@[simp] theorem State.enter_history (s : State) : s.enter.history = s.history := rfl
@[simp] theorem State.enter_ret (s : State) : s.enter.ret = s.ret := rfl
@[simp] theorem State.enter_ctx (s : State) : s.enter.ctx = .interrupt := rfl
@[simp] theorem State.enter_main (s : State) : s.enter.main = s.main := rfl
@[simp] theorem State.enter_hang (s : State) : s.enter.hang = s.hang := rfl
@[simp] theorem State.enter_cbs (s : State) : s.enter.cbs = s.cbs := rfl
@[simp] theorem State.enter_inputs (s : State) : s.enter.inputs = s.inputs := rfl
@[simp] theorem State.enter_script (s : State) : s.enter.script = s.script := rfl
@[simp] theorem State.enter_running (s : State) : s.enter.running = s.running := rfl
@[simp] theorem State.enter_passed (s : State) : s.enter.passed = s.passed := rfl
@[simp] theorem State.enter_redirect (s : State) : s.enter.redirect = s.redirect := rfl
@[simp] theorem State.enter_freeCount (s : State) : s.enter.freeCount = s.freeCount := rfl

/-! ### leave (R353) -/

@[simp] theorem State.leave_cfg (s : State) : s.leave.cfg = s.cfg := rfl
@[simp] theorem State.leave_mem (s : State) : s.leave.mem = s.mem := rfl
@[simp] theorem State.leave_gateBusy (s : State) : s.leave.gateBusy = s.gateBusy := rfl
@[simp] theorem State.leave_remap (s : State) : s.leave.remap = s.remap := rfl
@[simp] theorem State.leave_inIrq (s : State) : s.leave.inIrq = s.inIrq := rfl
@[simp] theorem State.leave_ticks (s : State) : s.leave.ticks = s.ticks := rfl
@[simp] theorem State.leave_tmo (s : State) : s.leave.tmo = s.tmo := rfl
@[simp] theorem State.leave_schedBusy (s : State) : s.leave.schedBusy = s.schedBusy := rfl
@[simp] theorem State.leave_dec (s : State) : s.leave.dec = s.dec := rfl
@[simp] theorem State.leave_rb (s : State) : s.leave.rb = s.rb := rfl
@[simp] theorem State.leave_faults (s : State) : s.leave.faults = s.faults := rfl
@[simp] theorem State.leave_refused (s : State) : s.leave.refused = s.refused := rfl
@[simp] theorem State.leave_cpu (s : State) : s.leave.cpu = { s.cpu with ifl := s.cpu.savedIf } := rfl
@[simp] theorem State.leave_pic1 (s : State) : s.leave.pic1 = s.pic1 := rfl
@[simp] theorem State.leave_pic2 (s : State) : s.leave.pic2 = s.pic2 := rfl
@[simp] theorem State.leave_kbc (s : State) : s.leave.kbc = s.kbc := rfl
@[simp] theorem State.leave_refusals (s : State) : s.leave.refusals = s.refusals := rfl
@[simp] theorem State.leave_history (s : State) : s.leave.history = s.history := rfl
@[simp] theorem State.leave_ret (s : State) : s.leave.ret = s.ret := rfl
@[simp] theorem State.leave_ctx (s : State) : s.leave.ctx = .main := rfl
@[simp] theorem State.leave_main (s : State) : s.leave.main = s.main.wake := rfl
@[simp] theorem State.leave_hang (s : State) : s.leave.hang = s.hang := rfl
@[simp] theorem State.leave_cbs (s : State) : s.leave.cbs = s.cbs := rfl
@[simp] theorem State.leave_inputs (s : State) : s.leave.inputs = s.inputs := rfl
@[simp] theorem State.leave_script (s : State) : s.leave.script = s.script := rfl
@[simp] theorem State.leave_running (s : State) : s.leave.running = s.running := rfl
@[simp] theorem State.leave_passed (s : State) : s.leave.passed = s.passed := rfl
@[simp] theorem State.leave_redirect (s : State) : s.leave.redirect = s.redirect := rfl
@[simp] theorem State.leave_freeCount (s : State) : s.leave.freeCount = s.freeCount := rfl

/-! ### begin (R131) -/

@[simp] theorem State.begin_cfg (s : State) (c : Context) (i : Option Instr) (b : List (List Stimulus)) : (s.begin c i b).cfg = s.cfg := rfl
@[simp] theorem State.begin_mem (s : State) (c : Context) (i : Option Instr) (b : List (List Stimulus)) : (s.begin c i b).mem = s.mem := rfl
@[simp] theorem State.begin_gateBusy (s : State) (c : Context) (i : Option Instr) (b : List (List Stimulus)) : (s.begin c i b).gateBusy = s.gateBusy := rfl
@[simp] theorem State.begin_remap (s : State) (c : Context) (i : Option Instr) (b : List (List Stimulus)) : (s.begin c i b).remap = s.remap := rfl
@[simp] theorem State.begin_inIrq (s : State) (c : Context) (i : Option Instr) (b : List (List Stimulus)) : (s.begin c i b).inIrq = (s.inIrq || c == .interrupt || c == .callback) := rfl
@[simp] theorem State.begin_ticks (s : State) (c : Context) (i : Option Instr) (b : List (List Stimulus)) : (s.begin c i b).ticks = s.ticks := rfl
@[simp] theorem State.begin_tmo (s : State) (c : Context) (i : Option Instr) (b : List (List Stimulus)) : (s.begin c i b).tmo = s.tmo := rfl
@[simp] theorem State.begin_schedBusy (s : State) (c : Context) (i : Option Instr) (b : List (List Stimulus)) : (s.begin c i b).schedBusy = s.schedBusy := rfl
@[simp] theorem State.begin_dec (s : State) (c : Context) (i : Option Instr) (b : List (List Stimulus)) : (s.begin c i b).dec = s.dec := rfl
@[simp] theorem State.begin_rb (s : State) (c : Context) (i : Option Instr) (b : List (List Stimulus)) : (s.begin c i b).rb = s.rb := rfl
@[simp] theorem State.begin_faults (s : State) (c : Context) (i : Option Instr) (b : List (List Stimulus)) : (s.begin c i b).faults = s.faults := rfl
@[simp] theorem State.begin_refused (s : State) (c : Context) (i : Option Instr) (b : List (List Stimulus)) : (s.begin c i b).refused = s.refused := rfl
@[simp] theorem State.begin_cpu (s : State) (c : Context) (i : Option Instr) (b : List (List Stimulus)) : (s.begin c i b).cpu = s.cpu := rfl
@[simp] theorem State.begin_pic1 (s : State) (c : Context) (i : Option Instr) (b : List (List Stimulus)) : (s.begin c i b).pic1 = s.pic1 := rfl
@[simp] theorem State.begin_pic2 (s : State) (c : Context) (i : Option Instr) (b : List (List Stimulus)) : (s.begin c i b).pic2 = s.pic2 := rfl
@[simp] theorem State.begin_kbc (s : State) (c : Context) (i : Option Instr) (b : List (List Stimulus)) : (s.begin c i b).kbc = s.kbc := rfl
@[simp] theorem State.begin_refusals (s : State) (c : Context) (i : Option Instr) (b : List (List Stimulus)) : (s.begin c i b).refusals = s.refusals := rfl
@[simp] theorem State.begin_history (s : State) (c : Context) (i : Option Instr) (b : List (List Stimulus)) : (s.begin c i b).history = s.history := rfl
@[simp] theorem State.begin_ret (s : State) (c : Context) (i : Option Instr) (b : List (List Stimulus)) : (s.begin c i b).ret = s.ret := rfl
@[simp] theorem State.begin_ctx (s : State) (c : Context) (i : Option Instr) (b : List (List Stimulus)) : (s.begin c i b).ctx = c := rfl
@[simp] theorem State.begin_main (s : State) (c : Context) (i : Option Instr) (b : List (List Stimulus)) : (s.begin c i b).main = s.main := rfl
@[simp] theorem State.begin_hang (s : State) (c : Context) (i : Option Instr) (b : List (List Stimulus)) : (s.begin c i b).hang = s.hang := rfl
@[simp] theorem State.begin_cbs (s : State) (c : Context) (i : Option Instr) (b : List (List Stimulus)) : (s.begin c i b).cbs = s.cbs := rfl
@[simp] theorem State.begin_inputs (s : State) (c : Context) (i : Option Instr) (b : List (List Stimulus)) : (s.begin c i b).inputs = s.inputs := rfl
@[simp] theorem State.begin_script (s : State) (c : Context) (i : Option Instr) (b : List (List Stimulus)) : (s.begin c i b).script = b := rfl
@[simp] theorem State.begin_running (s : State) (c : Context) (i : Option Instr) (b : List (List Stimulus)) : (s.begin c i b).running = i := rfl
@[simp] theorem State.begin_passed (s : State) (c : Context) (i : Option Instr) (b : List (List Stimulus)) : (s.begin c i b).passed = s.passed := rfl
@[simp] theorem State.begin_redirect (s : State) (c : Context) (i : Option Instr) (b : List (List Stimulus)) : (s.begin c i b).redirect = s.redirect := rfl
@[simp] theorem State.begin_freeCount (s : State) (c : Context) (i : Option Instr) (b : List (List Stimulus)) : (s.begin c i b).freeCount = s.freeCount := rfl

/-! ### loadIdt (R162) -/

@[simp] theorem State.loadIdt_cfg (s : State) (p : Word64) : (s.loadIdt p).cfg = s.cfg := rfl
@[simp] theorem State.loadIdt_mem (s : State) (p : Word64) : (s.loadIdt p).mem = s.mem := rfl
@[simp] theorem State.loadIdt_gateBusy (s : State) (p : Word64) : (s.loadIdt p).gateBusy = s.gateBusy := rfl
@[simp] theorem State.loadIdt_remap (s : State) (p : Word64) : (s.loadIdt p).remap = s.remap := rfl
@[simp] theorem State.loadIdt_inIrq (s : State) (p : Word64) : (s.loadIdt p).inIrq = s.inIrq := rfl
@[simp] theorem State.loadIdt_ticks (s : State) (p : Word64) : (s.loadIdt p).ticks = s.ticks := rfl
@[simp] theorem State.loadIdt_tmo (s : State) (p : Word64) : (s.loadIdt p).tmo = s.tmo := rfl
@[simp] theorem State.loadIdt_schedBusy (s : State) (p : Word64) : (s.loadIdt p).schedBusy = s.schedBusy := rfl
@[simp] theorem State.loadIdt_dec (s : State) (p : Word64) : (s.loadIdt p).dec = s.dec := rfl
@[simp] theorem State.loadIdt_rb (s : State) (p : Word64) : (s.loadIdt p).rb = s.rb := rfl
@[simp] theorem State.loadIdt_faults (s : State) (p : Word64) : (s.loadIdt p).faults = s.faults := rfl
@[simp] theorem State.loadIdt_refused (s : State) (p : Word64) : (s.loadIdt p).refused = s.refused := rfl
@[simp] theorem State.loadIdt_cpu (s : State) (p : Word64) : (s.loadIdt p).cpu = { s.cpu with idtr := { limit := BitVec.ofNat 16 (memRead s.mem p 2), base := BitVec.ofNat 64 (memRead s.mem (p + 2) 8) }, idtLoaded := true } := rfl
@[simp] theorem State.loadIdt_pic1 (s : State) (p : Word64) : (s.loadIdt p).pic1 = s.pic1 := rfl
@[simp] theorem State.loadIdt_pic2 (s : State) (p : Word64) : (s.loadIdt p).pic2 = s.pic2 := rfl
@[simp] theorem State.loadIdt_kbc (s : State) (p : Word64) : (s.loadIdt p).kbc = s.kbc := rfl
@[simp] theorem State.loadIdt_refusals (s : State) (p : Word64) : (s.loadIdt p).refusals = s.refusals := rfl
@[simp] theorem State.loadIdt_history (s : State) (p : Word64) : (s.loadIdt p).history = s.history := rfl
@[simp] theorem State.loadIdt_ret (s : State) (p : Word64) : (s.loadIdt p).ret = s.ret := rfl
@[simp] theorem State.loadIdt_ctx (s : State) (p : Word64) : (s.loadIdt p).ctx = s.ctx := rfl
@[simp] theorem State.loadIdt_main (s : State) (p : Word64) : (s.loadIdt p).main = s.main := rfl
@[simp] theorem State.loadIdt_hang (s : State) (p : Word64) : (s.loadIdt p).hang = s.hang := rfl
@[simp] theorem State.loadIdt_cbs (s : State) (p : Word64) : (s.loadIdt p).cbs = s.cbs := rfl
@[simp] theorem State.loadIdt_inputs (s : State) (p : Word64) : (s.loadIdt p).inputs = s.inputs := rfl
@[simp] theorem State.loadIdt_script (s : State) (p : Word64) : (s.loadIdt p).script = s.script := rfl
@[simp] theorem State.loadIdt_running (s : State) (p : Word64) : (s.loadIdt p).running = s.running := rfl
@[simp] theorem State.loadIdt_passed (s : State) (p : Word64) : (s.loadIdt p).passed = s.passed := rfl
@[simp] theorem State.loadIdt_redirect (s : State) (p : Word64) : (s.loadIdt p).redirect = s.redirect := rfl
@[simp] theorem State.loadIdt_freeCount (s : State) (p : Word64) : (s.loadIdt p).freeCount = s.freeCount := rfl

/-! ### Going on (R14) -/

theorem State.andThen_live (s : State) (k : State → State) (h : s.live = true) : s.andThen k = k s := by
  simp [State.andThen, h]

theorem State.andThen_stopped (s : State) (k : State → State) (h : s.live = false) : s.andThen k = s := by
  simp [State.andThen, h]

theorem State.live_iff (s : State) : s.live = true ↔ s.faults = [] ∧ s.hang = none ∧ s.redirect = none := by
  simp [State.live, and_assoc]

@[simp] theorem State.raise_live (s : State) (f : Fault) : (s.raise f).live = false := by
  simp [State.live]

@[simp] theorem State.refuse_live (s : State) (r : Refuse) : (s.refuse r).live = s.live := rfl

@[simp] theorem State.log_live (s : State) (e : IoEvent) : (s.log e).live = s.live := rfl

@[simp] theorem State.leave_live (s : State) : s.leave.live = s.live := rfl

theorem State.Quiet.live_eq {s : State} (h : s.Quiet) : s.live = true := (s.live_iff).2 ⟨h.1, h.2.1, h.2.2.1⟩

/-- What going on can do: it stays where the run has stopped, or runs the rest from a run that goes on. -/
theorem State.andThen_cases (s : State) (k : State → State) :
    (s.live = true ∧ s.andThen k = k s) ∨ (s.live = false ∧ s.andThen k = s) := by
  cases h : s.live
  · exact .inr ⟨rfl, s.andThen_stopped k h⟩
  · exact .inl ⟨rfl, s.andThen_live k h⟩

/-! ### Quiet step boundaries (R381) -/

/-- A boundary at which no stimulus waits changes nothing. -/
@[simp] theorem envI_nil (s : State) (h : s.script = []) : envI s = s := by simp [envI, h]

@[simp] theorem envM_nil (s : State) (h : s.script = []) : envM s = s := by simp [envM, h]

@[simp] theorem boundary_nil (s : State) (h : s.script = []) : boundary s = s := by
  unfold boundary; split <;> simp [h]

/-! ### Batches of stimuli (R358, log 9, 11) -/

@[simp] theorem State.putBack_nil (s : State) : s.putBack [] = s := rfl

@[simp] theorem State.putBack_cons (s : State) (x : Stimulus) (xs : List Stimulus) :
    s.putBack (x :: xs) = { s with script := (x :: xs) :: s.script } := rfl

@[simp] theorem stimuliWith_nil (goesOn : State → Bool) (deliver : Byte → State → State) (s : State) :
    stimuliWith goesOn deliver [] s = s := rfl

/-- One stimulus alone. -/
@[simp] theorem stimuliWith_singleton (goesOn : State → Bool) (deliver : Byte → State → State) (x : Stimulus) (s : State) :
    stimuliWith goesOn deliver [x] s = stimulusWith deliver x s := by
  simp [stimuliWith]

/-- What a batch can do: it goes on after a stimulus, or stops there and keeps the rest for the next boundary. -/
theorem stimuliWith_cons (goesOn : State → Bool) (deliver : Byte → State → State) (x : Stimulus) (xs : List Stimulus)
    (s : State) :
    (goesOn (stimulusWith deliver x s) = true ∧
      stimuliWith goesOn deliver (x :: xs) s = stimuliWith goesOn deliver xs (stimulusWith deliver x s)) ∨
    (goesOn (stimulusWith deliver x s) = false ∧
      stimuliWith goesOn deliver (x :: xs) s = (stimulusWith deliver x s).putBack xs) := by
  cases h : goesOn (stimulusWith deliver x s)
  · exact .inr ⟨rfl, by simp [stimuliWith, h]⟩
  · exact .inl ⟨rfl, by simp [stimuliWith, h]⟩

@[simp] theorem stimuliNested_nil (s : State) : stimuliNested [] s = s := rfl

@[simp] theorem stimuliNested_singleton (x : Stimulus) (s : State) :
    stimuliNested [x] s = stimulusWith deliverNested x s := by
  simp [stimuliNested]

/-- Inside interrupt context a batch goes on past every stimulus that leaves no fault (R14, R355). -/
theorem stimuliNested_cons (x : Stimulus) (xs : List Stimulus) (s : State)
    (h : (stimulusWith deliverNested x s).faults = []) :
    stimuliNested (x :: xs) s = stimuliNested xs (stimulusWith deliverNested x s) := by
  simp [stimuliNested, stimuliWith, h]

@[simp] theorem hoist_nil (first later : Stimulus → Bool) : hoist first later [] = [] := rfl

@[simp] theorem hoist_singleton (first later : Stimulus → Bool) (x : Stimulus) : hoist first later [x] = [x] := by
  cases h : later x <;> cases k : first x <;> simp [hoist, h, k]

@[simp] theorem orderBatch_nil : orderBatch [] = [] := rfl

@[simp] theorem orderBatch_singleton (x : Stimulus) : orderBatch [x] = [x] := by simp [orderBatch]

/-- What stands before the first stimulus that `later` selects stays there. -/
theorem hoist_append (first later : Stimulus → Bool) (pre xs : List Stimulus) (h : ∀ x ∈ pre, later x = false) :
    hoist first later (pre ++ xs) = pre ++ hoist first later xs := by
  have keep : ∀ x ∈ pre, (!later x) = true := fun x hx => by simp [h x hx]
  simp only [hoist, List.takeWhile_append_of_pos keep, List.dropWhile_append_of_pos keep, List.append_assoc]

/-- Ordering a batch neither drops nor adds a stimulus. -/
theorem hoist_perm (first later : Stimulus → Bool) (xs : List Stimulus) : (hoist first later xs).Perm xs := by
  unfold hoist
  rw [List.append_assoc]
  refine ((List.filter_append_perm first (xs.dropWhile (!later ·))).append_left _).trans ?_
  rw [List.takeWhile_append_dropWhile]

theorem orderBatch_perm (xs : List Stimulus) : (orderBatch xs).Perm xs :=
  (hoist_perm _ _ _).trans (hoist_perm _ _ _)

@[simp] theorem asInputs_nil : asInputs [] = [] := rfl

/-! ### The end of a step (R347, log 9, 22) -/

/-- What began from a state at rest ends where it went on to its end. -/
theorem State.finish_live (s t : State) (h : t.live = true) :
    s.finish t =
      { t with
        ctx := .main, inIrq := s.inIrq, script := [], running := none, passed := 0, inputs := asInputs t.script ++ t.inputs } := by
  obtain ⟨h1, h2, h3⟩ := (t.live_iff).1 h
  rcases t with ⟨⟩
  subst h1 h2 h3
  rfl

/-- A recorded fault leaves all as it is (R14). -/
theorem State.finish_faulted (s t : State) (f : Fault) (fs : List Fault) (h : t.faults = f :: fs) : s.finish t = t := by
  rcases t with ⟨⟩
  subst h
  rfl

/-! ### Requests (R131) -/

/-- The running context's request, where R131 admits it (R131). -/
theorem admitted_next (s : State) (o : Op) (body : State → State) (h : opAdmits o s.ctx = true) :
    s.admitted o body = .next (body s) := by
  simp [State.admitted, h]

/-- A request in a context its row does not list is refused (R131, R229, R343). -/
theorem admitted_refused (s : State) (o : Op) (body : State → State) (h : opAdmits o s.ctx = false) :
    s.admitted o body = .next (s.refuse (contextRefusal s.ctx)) := by
  simp [State.admitted, h]

end Sys2Proof.Machine
end

