-- ==== Sys2Proof/Laws/Interrupt.lean ====
section
/-! SUPPORT. What interrupt context can and cannot do: whatever the stimuli, a step boundary, HANDLE, everything HANDLE
calls and a delivery leave the configuration, memory, the table register, `remap`, the bookkeeping of main context's own
operations and the remaining inputs alone (R17, R32). -/

namespace Sys2Proof.Machine

open Sys2Proof

/-- The part of the state that only main context's operations write (R32). -/
structure MainOwned (s t : State) : Prop where
  cfg : t.cfg = s.cfg
  mem : t.mem = s.mem
  gateBusy : t.gateBusy = s.gateBusy
  remap : t.remap = s.remap
  schedBusy : t.schedBusy = s.schedBusy
  idtr : t.cpu.idtr = s.cpu.idtr
  idtLoaded : t.cpu.idtLoaded = s.cpu.idtLoaded
  inputs : t.inputs = s.inputs
  running : t.running = s.running

theorem MainOwned.refl (s : State) : MainOwned s s := ⟨rfl, rfl, rfl, rfl, rfl, rfl, rfl, rfl, rfl⟩

theorem MainOwned.trans {s t u : State} (h : MainOwned s t) (k : MainOwned t u) : MainOwned s u :=
  ⟨k.cfg.trans h.cfg, k.mem.trans h.mem, k.gateBusy.trans h.gateBusy, k.remap.trans h.remap,
   k.schedBusy.trans h.schedBusy, k.idtr.trans h.idtr, k.idtLoaded.trans h.idtLoaded, k.inputs.trans h.inputs, k.running.trans h.running⟩

/-- Going on keeps what both halves keep. -/
theorem MainOwned.andThen {s t : State} {k : State → State} (h : MainOwned s t) (hk : ∀ u, MainOwned u (k u)) :
    MainOwned s (t.andThen k) := by
  rcases t.andThen_cases k with ⟨_, e⟩ | ⟨_, e⟩
  · rw [e]; exact h.trans (hk t)
  · rw [e]; exact h

/-! ### Devices and stimuli -/

theorem raise_mainOwned (s : State) (f : Fault) : MainOwned s (s.raise f) := ⟨rfl, rfl, rfl, rfl, rfl, rfl, rfl, rfl, rfl⟩

theorem refuse_mainOwned (s : State) (r : Refuse) : MainOwned s (s.refuse r) := ⟨rfl, rfl, rfl, rfl, rfl, rfl, rfl, rfl, rfl⟩

theorem portWrite_mainOwned (s : State) (p : Port) (v : Byte) : MainOwned s (s.portWrite p v) := by
  unfold State.portWrite
  dsimp only
  repeat' split
  all_goals exact ⟨rfl, rfl, rfl, rfl, rfl, rfl, rfl, rfl, rfl⟩

theorem portRead_mainOwned (s : State) (p : Port) : MainOwned s (s.portRead p) := by
  unfold State.portRead
  dsimp only
  repeat' split
  all_goals exact ⟨rfl, rfl, rfl, rfl, rfl, rfl, rfl, rfl, rfl⟩

theorem raiseLine_mainOwned (s : State) (l : Fin 16) : MainOwned s (s.raiseLine l) := by
  unfold State.raiseLine
  split <;> exact ⟨rfl, rfl, rfl, rfl, rfl, rfl, rfl, rfl, rfl⟩

theorem acknowledge_mainOwned (s t : State) (v : Byte) (h : s.acknowledge = some (v, t)) : MainOwned s t := by
  unfold State.acknowledge at h
  dsimp only at h
  split at h
  · cases h
  · split at h
    all_goals
      cases h
      exact ⟨rfl, rfl, rfl, rfl, rfl, rfl, rfl, rfl, rfl⟩

/-- A stimulus keeps what main context owns where a delivery does. -/
theorem stimulusWith_mainOwned (deliver : Byte → State → State) (hd : ∀ v s, MainOwned s (deliver v s))
    (x : Stimulus) (s : State) : MainOwned s (stimulusWith deliver x s) := by
  cases x with
  | cli => exact ⟨rfl, rfl, rfl, rfl, rfl, rfl, rfl, rfl, rfl⟩
  | sti => exact ⟨rfl, rfl, rfl, rfl, rfl, rfl, rfl, rfl, rfl⟩
  | irq l => exact raiseLine_mainOwned s l
  | take =>
    unfold stimulusWith
    dsimp only
    split
    · split
      · rename_i h; exact (acknowledge_mainOwned _ _ _ h).trans (hd _ _)
      · exact .refl s
    · exact .refl s
  | deliver v =>
    unfold stimulusWith
    dsimp only
    split
    · exact hd v s
    · exact .refl s
  | kbd b => exact ⟨rfl, rfl, rfl, rfl, rfl, rfl, rfl, rfl, rfl⟩
  | kbcBusy n => exact ⟨rfl, rfl, rfl, rfl, rfl, rfl, rfl, rfl, rfl⟩
  | kbcStuck => exact ⟨rfl, rfl, rfl, rfl, rfl, rfl, rfl, rfl, rfl⟩
  | kbdStatus b => exact ⟨rfl, rfl, rfl, rfl, rfl, rfl, rfl, rfl, rfl⟩
  | mask m1 m2 => exact ⟨rfl, rfl, rfl, rfl, rfl, rfl, rfl, rfl, rfl⟩
  | cb id text => exact ⟨rfl, rfl, rfl, rfl, rfl, rfl, rfl, rfl, rfl⟩

theorem putBack_mainOwned (s : State) (xs : List Stimulus) : MainOwned s (s.putBack xs) := by
  cases xs <;> exact ⟨rfl, rfl, rfl, rfl, rfl, rfl, rfl, rfl, rfl⟩

theorem stimuliWith_mainOwned (goesOn : State → Bool) (deliver : Byte → State → State)
    (hd : ∀ v s, MainOwned s (deliver v s)) (xs : List Stimulus) (s : State) :
    MainOwned s (stimuliWith goesOn deliver xs s) := by
  induction xs generalizing s with
  | nil => exact .refl s
  | cons x xs ih =>
    rcases stimuliWith_cons goesOn deliver x xs s with ⟨_, e⟩ | ⟨_, e⟩
    · rw [e]; exact (stimulusWith_mainOwned deliver hd x s).trans (ih _)
    · rw [e]; exact (stimulusWith_mainOwned deliver hd x s).trans (putBack_mainOwned _ xs)

theorem stimuliNested_mainOwned (xs : List Stimulus) (s : State) : MainOwned s (stimuliNested xs s) :=
  stimuliWith_mainOwned _ _ (fun _ s => raise_mainOwned s .reentry) xs s

theorem envI_mainOwned (s : State) : MainOwned s (envI s) := by
  unfold envI
  split
  · exact .refl s
  · refine MainOwned.trans ?_ (stimuliNested_mainOwned _ _)
    exact ⟨rfl, rfl, rfl, rfl, rfl, rfl, rfl, rfl, rfl⟩

/-! ### The operations of interrupt context -/

theorem rbPushOp_mainOwned (e : Event) (s : State) : MainOwned s (rbPushOp e s) := by
  unfold rbPushOp
  refine (envI_mainOwned s).andThen fun u => (envI_mainOwned u).andThen fun u => (envI_mainOwned u).andThen fun u => ?_
  split
  · exact .refl u
  · refine (envI_mainOwned u).andThen fun u => MainOwned.andThen (MainOwned.trans ?_ (envI_mainOwned _)) fun u => ?_
    all_goals exact ⟨rfl, rfl, rfl, rfl, rfl, rfl, rfl, rfl, rfl⟩

theorem poll_mainOwned (s : State) : MainOwned s s.poll := portRead_mainOwned s _

theorem pollBusy_mainOwned (n : Nat) (s : State) : MainOwned s (pollBusy n s) := by
  induction n generalizing s with
  | zero => exact poll_mainOwned s
  | succ n ih => exact (poll_mainOwned s).trans (ih s.poll)

theorem pollLoop_mainOwned (bs : List (List Stimulus)) (s : State) : MainOwned s (pollLoop bs s) := by
  induction bs generalizing s with
  | nil =>
    unfold pollLoop pollQuiet
    split
    · exact pollBusy_mainOwned _ s
    · exact MainOwned.trans (poll_mainOwned s) ⟨rfl, rfl, rfl, rfl, rfl, rfl, rfl, rfl, rfl⟩
  | cons b bs ih =>
    unfold pollLoop
    split
    · refine MainOwned.andThen ?_ ih
      refine MainOwned.trans (poll_mainOwned s) (MainOwned.trans ?_ (stimuliNested_mainOwned b _))
      exact ⟨rfl, rfl, rfl, rfl, rfl, rfl, rfl, rfl, rfl⟩
    · exact poll_mainOwned s

theorem ledWriteOp_mainOwned (s : State) : MainOwned s (ledWriteOp s) := by
  unfold ledWriteOp
  refine (envI_mainOwned s).andThen fun u => (pollLoop_mainOwned _ u).andThen fun u => (envI_mainOwned u).andThen fun u => ?_
  refine ((portWrite_mainOwned u _ _).trans (envI_mainOwned _)).andThen fun u => ?_
  exact (pollLoop_mainOwned _ u).andThen fun u => (envI_mainOwned u).andThen fun u => portWrite_mainOwned u _ _

theorem dec_mainOwned (s : State) (d : Decoder) : MainOwned s { s with dec := d } :=
  ⟨rfl, rfl, rfl, rfl, rfl, rfl, rfl, rfl, rfl⟩

theorem emitNonzero_mainOwned (e : Event) (s : State) : MainOwned s (emitNonzero e s) := by
  unfold emitNonzero; split
  · exact .refl s
  · exact rbPushOp_mainOwned e s

theorem decodeOp_mainOwned (b : Byte) (s : State) : MainOwned s (decodeOp b s) := by
  have numpad : ∀ code u, MainOwned u (decodeNumpad code u) := by
    intro code u
    unfold decodeNumpad; split
    · exact emitNonzero_mainOwned _ u
    · exact (envI_mainOwned u).andThen fun u => emitNonzero_mainOwned _ u
  have fn : ∀ rel code u, MainOwned u (decodeFn rel code u) := by
    intro rel code u
    unfold decodeFn; split
    · split
      · exact .refl u
      · exact rbPushOp_mainOwned _ u
    · refine (envI_mainOwned u).andThen fun u => ?_
      unfold decodePress; split
      · exact .refl u
      · exact (envI_mainOwned u).andThen (numpad code)
  have ext : ∀ rel w code u, MainOwned u (decodeExt rel w code u) := by
    intro rel w code u
    unfold decodeExt; split
    · split
      · exact .refl u
      · exact emitNonzero_mainOwned _ u
    · exact (envI_mainOwned u).andThen (fn rel code)
  have sticky : ∀ rel w code u, MainOwned u (decodeSticky rel w code u) := by
    intro rel w code u
    unfold decodeSticky; split
    · exact dec_mainOwned u _
    · split
      · split
        · exact .refl u
        · exact (dec_mainOwned u _).trans (ledWriteOp_mainOwned _)
      · exact (envI_mainOwned u).andThen (ext rel w code)
  have key : ∀ u, MainOwned u (decodeKey b u) := by
    intro u
    unfold decodeKey
    refine ((dec_mainOwned u _).trans (envI_mainOwned _)).andThen fun u => ?_
    unfold decodeAlias; split
    · exact rbPushOp_mainOwned _ u
    · exact (envI_mainOwned u).andThen (sticky _ _ _)
  have frame : ∀ u, MainOwned u (decodeFrame b u) := by
    intro u
    unfold decodeFrame
    dsimp only
    split
    · exact ((dec_mainOwned u _).trans (dec_mainOwned _ _)).trans (rbPushOp_mainOwned _ _)
    · refine ((dec_mainOwned u _).trans (envI_mainOwned _)).andThen fun u => ?_
      unfold decodeExtPrefix; split
      · exact dec_mainOwned u _
      · exact (envI_mainOwned u).andThen key
  unfold decodeOp; split
  · exact (dec_mainOwned s _).trans (rbPushOp_mainOwned _ _)
  · refine (envI_mainOwned s).andThen fun u => ?_
    unfold decodePausePrefix; split
    · exact dec_mainOwned u _
    · exact (envI_mainOwned u).andThen frame

theorem intakeOp_mainOwned (s : State) : MainOwned s (intakeOp s) := by
  unfold intakeOp
  exact ((portRead_mainOwned s _).trans (envI_mainOwned _)).andThen fun u => decodeOp_mainOwned _ u

theorem setSlot_mainOwned (s : State) (i : Fin 16) (t : Timeout) : MainOwned s (s.setSlot i t) :=
  ⟨rfl, rfl, rfl, rfl, rfl, rfl, rfl, rfl, rfl⟩

theorem callbackRequest_mainOwned (w : RequestWord) (s : State) : MainOwned s (callbackRequest w s) := by
  have arm : ∀ cb d i u, MainOwned u (armSlot envI cb d i u) := by
    intro cb d i u
    unfold armSlot
    refine ((setSlot_mainOwned u _ _).trans (envI_mainOwned _)).andThen fun u => ?_
    refine ((setSlot_mainOwned u _ _).trans (envI_mainOwned _)).andThen fun u => ?_
    exact (setSlot_mainOwned u _ _).trans (envI_mainOwned _)
  have scan : ∀ cb d is u, MainOwned u (scheduleScan envI cb d is u) := by
    intro cb d is
    induction is with
    | nil => exact fun u => .refl u
    | cons i is ih =>
      intro u
      unfold scheduleScan; split
      · exact (envI_mainOwned u).andThen ih
      · exact (envI_mainOwned u).andThen (arm cb d i)
  have sched : ∀ cb d u, MainOwned u (scheduleOp envI false cb d u) := by
    intro cb d u
    unfold scheduleOp
    refine MainOwned.andThen ?_ fun u => MainOwned.andThen (scan cb d slots u) fun u => ?_
    · exact envI_mainOwned u
    · exact .refl u
  unfold callbackRequest
  cases decode w with
  | unknownOp => exact refuse_mainOwned s _
  | nonzeroUnused o => exact refuse_mainOwned s _
  | ok i =>
    cases i with
    | schedule cb d => exact sched cb d s
    | uptime => exact ⟨rfl, rfl, rfl, rfl, rfl, rfl, rfl, rfl, rfl⟩
    | format ms => exact ⟨rfl, rfl, rfl, rfl, rfl, rfl, rfl, rfl, rfl⟩
    | _ => exact refuse_mainOwned s _

theorem callbackRequests_mainOwned (ws : List RequestWord) (s : State) : MainOwned s (callbackRequests ws s) := by
  induction ws generalizing s with
  | nil => exact .refl s
  | cons w ws ih =>
    exact (callbackRequest_mainOwned w s).andThen fun u => (envI_mainOwned u).andThen ih

theorem invokeOp_mainOwned (cb : CallbackId) (s : State) : MainOwned s (invokeOp cb s) := by
  unfold invokeOp
  refine MainOwned.andThen (MainOwned.trans ?_ (envI_mainOwned _)) fun u => ?_
  · exact ⟨rfl, rfl, rfl, rfl, rfl, rfl, rfl, rfl, rfl⟩
  · refine (callbackRequests_mainOwned _ u).andThen fun u => ?_
    split <;> exact ⟨rfl, rfl, rfl, rfl, rfl, rfl, rfl, rfl, rfl⟩

theorem fireSlot_mainOwned (i : Fin 16) (s : State) : MainOwned s (fireSlot i s) :=
  ((setSlot_mainOwned s _ _).trans (envI_mainOwned _)).andThen (invokeOp_mainOwned _)

theorem advanceSlots_mainOwned (is : List (Fin 16)) (s : State) : MainOwned s (advanceSlots is s) := by
  induction is generalizing s with
  | nil => exact .refl s
  | cons i is ih =>
    unfold advanceSlots
    refine (MainOwned.andThen ?_ envI_mainOwned).andThen ih
    split
    · exact (envI_mainOwned s).andThen (fireSlot_mainOwned i)
    · exact .refl s

theorem tickOp_mainOwned (s : State) : MainOwned s (tickOp s) := by
  unfold tickOp
  refine MainOwned.andThen (MainOwned.trans ?_ (envI_mainOwned _)) (advanceSlots_mainOwned slots)
  exact ⟨rfl, rfl, rfl, rfl, rfl, rfl, rfl, rfl, rfl⟩

theorem eoiOp_mainOwned (line : Byte) (s : State) : MainOwned s (eoiOp line s) := by
  unfold eoiOp
  refine MainOwned.andThen (MainOwned.trans ?_ (envI_mainOwned _)) fun u => portWrite_mainOwned u _ _
  split
  · exact portWrite_mainOwned s _ _
  · exact .refl s

theorem handleOp_mainOwned (v : Byte) (s : State) : MainOwned s (handleOp v s) := by
  have vec : ∀ u, MainOwned u (handleVector v u) := by
    intro u
    unfold handleVector; split
    · exact ⟨rfl, rfl, rfl, rfl, rfl, rfl, rfl, rfl, rfl⟩
    · split
      · refine MainOwned.andThen ?_ fun u => (envI_mainOwned u).andThen (eoiOp_mainOwned _)
        unfold lineWork; split
        · exact tickOp_mainOwned u
        · split
          · exact intakeOp_mainOwned u
          · exact .refl u
      · exact ⟨rfl, rfl, rfl, rfl, rfl, rfl, rfl, rfl, rfl⟩
  unfold handleOp
  refine MainOwned.andThen (MainOwned.trans ?_ (envI_mainOwned _)) fun u => ?_
  · exact ⟨rfl, rfl, rfl, rfl, rfl, rfl, rfl, rfl, rfl⟩
  · exact (vec u).andThen fun u => (envI_mainOwned u).andThen fun u => ⟨rfl, rfl, rfl, rfl, rfl, rfl, rfl, rfl, rfl⟩

/-! ### Deliveries and boundaries -/

/-- What a delivery can do (R348): record the fault of the first failing check, or run HANDLE between Enter and Return. -/
theorem deliverWith_cases (handle : Byte → State → State) (v : Byte) (s : State) :
    (∃ f, deliveryCheck s v = .error f ∧ deliverWith handle v s = s.raise f) ∨
    (∃ w, deliveryCheck s v = .ok w ∧ deliverWith handle v s = (handle w s.enter).andThen State.leave) := by
  unfold deliverWith
  cases h : deliveryCheck s v with
  | error f => exact .inl ⟨f, rfl, rfl⟩
  | ok w => exact .inr ⟨w, rfl, rfl⟩

theorem deliverHandle_mainOwned (v : Byte) (s : State) : MainOwned s (deliverWith handleOp v s) := by
  rcases deliverWith_cases handleOp v s with ⟨f, _, e⟩ | ⟨w, _, e⟩
  · rw [e]; exact raise_mainOwned s f
  · rw [e]
    refine MainOwned.andThen (MainOwned.trans ?_ (handleOp_mainOwned w _)) fun u => ?_
    all_goals exact ⟨rfl, rfl, rfl, rfl, rfl, rfl, rfl, rfl, rfl⟩

theorem resumed_mainOwned (s : State) (v : Byte) (p : MainPoint) (r : Resume) : MainOwned s (s.resumed v p r) := by
  cases r <;> exact ⟨rfl, rfl, rfl, rfl, rfl, rfl, rfl, rfl, rfl⟩

theorem deliverAt_mainOwned (p : MainPoint) (v : Byte) (s : State) : MainOwned s (deliverAt p v s) := by
  refine (deliverHandle_mainOwned v s).andThen fun u => ?_
  split
  · exact resumed_mainOwned u v p _
  · exact .refl u

theorem deliverOp_mainOwned (v : Byte) (s : State) : MainOwned s (deliverOp v s) := deliverAt_mainOwned s.point v s

/-- What a delivery to main context, interrupted at `p`, can do (R348, R347): record the fault of the first failing check;
stop inside HANDLE; or return, and after an exception continue as EXC_RESUME says for `p`. -/
theorem deliverAt_cases (p : MainPoint) (v : Byte) (s : State) :
    (∃ f, deliveryCheck s v = .error f ∧ deliverAt p v s = s.raise f) ∨
    (∃ w, deliveryCheck s v = .ok w ∧ (handleOp w s.enter).live = false ∧ deliverAt p v s = handleOp w s.enter) ∨
    (∃ w, deliveryCheck s v = .ok w ∧ (handleOp w s.enter).live = true ∧
      deliverAt p v s =
        if v.toNat ≤ 31 then (handleOp w s.enter).leave.resumed v p (resumeAt s.cfg v p)
        else (handleOp w s.enter).leave) := by
  rcases deliverWith_cases handleOp v s with ⟨f, h, e⟩ | ⟨w, h, e⟩
  · exact .inl ⟨f, h, by rw [deliverAt, e, State.andThen_stopped _ _ (s.raise_live f)]⟩
  · cases hl : (handleOp w s.enter).live
    · refine .inr (.inl ⟨w, h, hl, ?_⟩)
      rw [deliverAt, e, State.andThen_stopped _ _ hl, State.andThen_stopped _ _ hl]
    · refine .inr (.inr ⟨w, h, hl, ?_⟩)
      rw [deliverAt, e, State.andThen_live _ _ hl, State.andThen_live _ _ ((State.leave_live _).trans hl)]

/-- Whatever stimuli land at a boundary of main context, they leave what main context owns alone (R17). -/
theorem envM_mainOwned (s : State) : MainOwned s (envM s) := by
  unfold envM
  split
  · exact .refl s
  · refine MainOwned.trans ?_ (stimuliWith_mainOwned _ _ deliverOp_mainOwned _ _)
    exact ⟨rfl, rfl, rfl, rfl, rfl, rfl, rfl, rfl, rfl⟩

/-- Where EXC_RESUME lists nothing but "past", main context goes on past every report (R347). -/
theorem resumeAt_past (c : Config) (v : Byte) (p : MainPoint) (h : c.resumesPast) : resumeAt c v p = .past := by
  unfold resumeAt
  split
  · rename_i r hr; exact h r (List.mem_of_find?_eq_some hr)
  · rfl

/-- There a delivery is the delivery alone. -/
theorem deliverAt_past (p : MainPoint) (v : Byte) (s : State) (h : s.cfg.resumesPast) :
    deliverAt p v s = deliverWith handleOp v s := by
  unfold deliverAt
  rcases (deliverWith handleOp v s).andThen_cases
    (fun t => if v.toNat ≤ 31 then t.resumed v p (resumeAt s.cfg v p) else t) with ⟨_, e⟩ | ⟨_, e⟩
  · rw [e, resumeAt_past _ _ _ h]
    split <;> rfl
  · exact e

theorem boundary_mainOwned (s : State) : MainOwned s (boundary s) := by
  unfold boundary; split
  · exact envM_mainOwned s
  · exact envI_mainOwned s

end Sys2Proof.Machine
end

