-- ==== Sys2Proof/Laws/Memory.lean ====
section
/-! SUPPORT. The laws of memory (R11, R84): the canonical form is kept by every write, a read after a write gives the byte
written, and a write leaves every other byte alone. -/

namespace Sys2Proof.Machine

open Sys2Proof

/-! ### The canonical form -/

/-- Every address of `m` lies above `a`. -/
def Memory.above (a : Nat) (m : Memory) : Prop := ∀ c ∈ m, a < c.1

theorem wf_cons (a : Nat) (b : Byte) (m : Memory) :
    Memory.wf ((a, b) :: m) = true ↔
      a < 2 ^ 64 ∧ b ≠ unlistedByte ∧ Memory.wf m = true ∧ Memory.above a m := by
  induction m generalizing a b with
  | nil => simp [Memory.wf, Memory.above]
  | cons c m ih =>
    obtain ⟨a', b'⟩ := c
    have step : Memory.wf ((a, b) :: (a', b') :: m) = true ↔
        a < a' ∧ b ≠ unlistedByte ∧ Memory.wf ((a', b') :: m) = true := by
      simp only [Memory.wf, Bool.and_eq_true, decide_eq_true_eq, bne_iff_ne, and_assoc]
    rw [step]
    constructor
    · rintro ⟨h1, h2, h3⟩
      obtain ⟨h4, h5, h6, h7⟩ := (ih a' b').1 h3
      refine ⟨by omega, h2, h3, ?_⟩
      intro c hc
      rcases List.mem_cons.1 hc with rfl | hc
      · exact h1
      · exact lt_trans h1 (h7 c hc)
    · rintro ⟨_, h2, h3, h4⟩
      exact ⟨h4 (a', b') (by simp), h2, h3⟩

theorem readByte_above (m : Memory) (a : Nat) (h : Memory.above a m) : readByte m a = unlistedByte := by
  induction m with
  | nil => rfl
  | cons c m ih =>
    obtain ⟨a', b'⟩ := c
    have h1 : a < a' := h (a', b') (by simp)
    simp only [readByte]
    rw [if_neg (by omega)]
    exact ih fun c hc => h c (by simp [hc])

theorem above_writeByte (m : Memory) (c a : Nat) (b : Byte) (h : Memory.above c m) (hc : c < a) :
    Memory.above c (writeByte m a b) := by
  induction m with
  | nil =>
    unfold writeByte
    split <;> simp [Memory.above, hc]
  | cons x m ih =>
    obtain ⟨a', b'⟩ := x
    have ht : Memory.above c m := fun y hy => h y (by simp [hy])
    have h1 : c < a' := h (a', b') (by simp)
    unfold writeByte
    intro y hy
    split at hy
    · split at hy
      · exact h y hy
      · rcases List.mem_cons.1 hy with rfl | hy
        · exact hc
        · exact h y hy
    · split at hy
      · split at hy
        · exact ht y hy
        · rcases List.mem_cons.1 hy with rfl | hy
          · exact hc
          · exact ht y hy
      · rcases List.mem_cons.1 hy with rfl | hy
        · exact h1
        · exact ih ht y hy

/-- A write keeps the canonical form. -/
theorem writeByte_wf (m : Memory) (a : Nat) (b : Byte) (h : m.wf = true) (ha : a < 2 ^ 64) :
    (writeByte m a b).wf = true := by
  induction m with
  | nil =>
    unfold writeByte
    split
    · rfl
    · rename_i hb; simpa [Memory.wf, hb] using ha
  | cons x m ih =>
    obtain ⟨a', b'⟩ := x
    obtain ⟨h1, h2, h3, h4⟩ := (wf_cons a' b' m).1 h
    unfold writeByte
    split
    · rename_i hlt
      split
      · exact h
      · rename_i hb
        refine (wf_cons _ _ _).2 ⟨ha, hb, h, ?_⟩
        intro c hc
        rcases List.mem_cons.1 hc with rfl | hc
        · exact hlt
        · exact lt_trans hlt (h4 c hc)
    · split
      · rename_i heq
        subst heq
        split
        · exact h3
        · rename_i hb; exact (wf_cons _ _ _).2 ⟨ha, hb, h3, h4⟩
      · exact (wf_cons _ _ _).2 ⟨h1, h2, ih h3, above_writeByte m a' a b h4 (by omega)⟩

theorem writeBytes_wf (m : Memory) (a : Word64) (bs : List Byte) (h : m.wf = true) :
    (writeBytes m a bs).wf = true := by
  induction bs generalizing m a with
  | nil => exact h
  | cons b bs ih => exact ih _ _ (writeByte_wf m _ b h a.isLt)

theorem memWrite_wf (m : Memory) (a : Word64) (n v : Nat) (h : m.wf = true) : (memWrite m a n v).wf = true :=
  writeBytes_wf m a _ h

theorem writeGate_wf (m : Memory) (d h : Word64) (attr : Byte) (hm : m.wf = true) :
    (writeGate m d h attr).wf = true := by
  simp only [writeGate]
  repeat apply memWrite_wf
  exact hm

/-! ### Read after write -/

/-- One byte written: the byte itself, and every other byte as before. -/
theorem readByte_writeByte (m : Memory) (a x : Nat) (b : Byte) (h : m.wf = true) :
    readByte (writeByte m a b) x = if x = a then b else readByte m x := by
  induction m with
  | nil =>
    unfold writeByte
    split
    · rename_i hb; simp [readByte, hb]
    · simp only [readByte]; split <;> split <;> first | rfl | omega
  | cons y m ih =>
    obtain ⟨a', b'⟩ := y
    obtain ⟨h1, h2, h3, h4⟩ := (wf_cons a' b' m).1 h
    unfold writeByte
    split
    · rename_i hlt
      split
      · rename_i hb
        split
        · rename_i hx
          subst hx hb
          apply readByte_above
          intro c hc
          rcases List.mem_cons.1 hc with rfl | hc
          · exact hlt
          · exact lt_trans hlt (h4 c hc)
        · rfl
      · by_cases hx : a = x
        · simp [readByte, hx]
        · have hx' : ¬ x = a := fun e => hx e.symm
          rw [readByte, if_neg hx, if_neg hx']
    · split
      · rename_i heq
        subst heq
        split
        · rename_i hb
          subst hb
          by_cases hx : x = a
          · subst hx
            rw [if_pos rfl]
            exact readByte_above m x h4
          · rw [if_neg hx]; simp only [readByte]; rw [if_neg (fun e => hx e.symm)]
        · simp only [readByte]
          by_cases hx : a = x
          · simp [hx]
          · rw [if_neg hx, if_neg (fun e => hx e.symm), if_neg hx]
      · rename_i hne
        simp only [readByte]
        by_cases hx : a' = x
        · rw [if_pos hx, if_pos hx, if_neg (by omega)]
        · rw [if_neg hx, if_neg hx, ih h3]

/-! ### Regions -/

theorem byteAt_succ (a : Word64) (k : Nat) : byteAt (a + 1) k = byteAt a (k + 1) := by
  unfold byteAt
  congr 1
  rw [BitVec.add_assoc, BitVec.add_comm 1, BitVec.ofNat_add]
  rfl

theorem byteAt_zero (a : Word64) : byteAt a 0 = a.toNat := by simp [byteAt]

theorem byteAt_lt (a : Word64) (k : Nat) : byteAt a k < 2 ^ 64 := BitVec.isLt _

theorem byteAt_inj (a : Word64) (j k : Nat) (hj : j < 2 ^ 64) (hk : k < 2 ^ 64)
    (h : byteAt a j = byteAt a k) : j = k := by
  unfold byteAt at h
  simp only [BitVec.toNat_add, BitVec.toNat_ofNat] at h
  have := a.isLt
  omega

/-- A run of bytes written leaves every byte outside the region as before. -/
theorem readByte_writeBytes_outside (m : Memory) (a : Word64) (bs : List Byte) (x : Nat) (h : m.wf = true)
    (hx : ¬ inRegion a bs.length x) : readByte (writeBytes m a bs) x = readByte m x := by
  induction bs generalizing m a with
  | nil => rfl
  | cons b bs ih =>
    simp only [writeBytes]
    rw [ih _ _ (writeByte_wf m _ b h a.isLt), readByte_writeByte _ _ _ _ h, if_neg]
    · exact fun e => hx ⟨0, by simp, by rw [byteAt_zero]; exact e⟩
    · rintro ⟨j, hj, e⟩
      exact hx ⟨j + 1, by simpa using hj, by rw [e, byteAt_succ]⟩

/-- A run of bytes written can be read back. -/
theorem readByte_writeBytes_inside (m : Memory) (a : Word64) (bs : List Byte) (h : m.wf = true)
    (hl : bs.length ≤ 2 ^ 64) (k : Nat) (hk : k < bs.length) :
    readByte (writeBytes m a bs) (byteAt a k) = bs[k] := by
  induction bs generalizing m a k with
  | nil => exact absurd hk (by simp)
  | cons b bs ih =>
    have hl' : bs.length < 2 ^ 64 := by simp at hl; omega
    have hw := writeByte_wf m a.toNat b h a.isLt
    simp only [writeBytes]
    cases k with
    | zero =>
      rw [readByte_writeBytes_outside _ _ _ _ hw, readByte_writeByte _ _ _ _ h, byteAt_zero, if_pos rfl]
      · rfl
      · rintro ⟨j, hj, e⟩
        rw [byteAt_succ] at e
        have := byteAt_inj a 0 (j + 1) (by omega) (by omega) e
        omega
    | succ k =>
      rw [← byteAt_succ]
      exact ih _ _ hw (by omega) k (by simpa using hk)

/-- The reset memory is canonical where the draw's is. -/
theorem reset_mem_wf : State.reset.mem.wf = true := rfl

end Sys2Proof.Machine
end

