-- ==== Sys2Proof/Laws/PerInstr.lean ====
section
/-! SUPPORT. One lemma per instruction: the record of every instruction names its operation and leaves the fields that
operation does not use zero (R130, R131). -/

namespace Sys2Proof.Laws

open Sys2Proof

/-- The record's selector is the operation's, and its unused fields are zero. -/
def EncodeWellFormed.Statement (i : Instr) : Prop :=
  i.fields.op = i.op.selector ∧ i.op.unusedZero i.fields = true

/-- A byte, widened to a field, is below 256. -/
theorem byte_field_small (x : Byte) : (x.setWidth 64).toNat < 256 := by simp; omega

/-- A 16-bit event, widened to a field, is below 65536. -/
theorem event_field_small (x : Event) : (x.setWidth 64).toNat < 65536 := by simp; omega

theorem EncodeWellFormed.setGate (v : Byte) (h : Word64) (attr : Byte) : EncodeWellFormed.Statement (.setGate v h attr) := ⟨rfl, decide_eq_true (byte_field_small attr)⟩

theorem EncodeWellFormed.idtInit : EncodeWellFormed.Statement .idtInit := ⟨rfl, by simp [Op.unusedZero, Instr.op, Instr.fields]⟩

theorem EncodeWellFormed.picRemap (o1 o2 : Byte) : EncodeWellFormed.Statement (.picRemap o1 o2) := 
  ⟨rfl, by simpa [Op.unusedZero, Instr.op, Instr.fields] using byte_field_small o2⟩

theorem EncodeWellFormed.picEoi (line : Byte) : EncodeWellFormed.Statement (.picEoi line) := ⟨rfl, by simp [Op.unusedZero, Instr.op, Instr.fields]⟩

theorem EncodeWellFormed.handle (v : Byte) : EncodeWellFormed.Statement (.handle v) := ⟨rfl, by simp [Op.unusedZero, Instr.op, Instr.fields]⟩

theorem EncodeWellFormed.tick : EncodeWellFormed.Statement .tick := ⟨rfl, by simp [Op.unusedZero, Instr.op, Instr.fields]⟩

theorem EncodeWellFormed.advance : EncodeWellFormed.Statement .advance := ⟨rfl, by simp [Op.unusedZero, Instr.op, Instr.fields]⟩

theorem EncodeWellFormed.schedule (cb : Word64) (d : Word64) : EncodeWellFormed.Statement (.schedule cb d) := ⟨rfl, by simp [Op.unusedZero, Instr.op, Instr.fields]⟩

theorem EncodeWellFormed.sleep (ms : Word64) : EncodeWellFormed.Statement (.sleep ms) := ⟨rfl, by simp [Op.unusedZero, Instr.op, Instr.fields]⟩

theorem EncodeWellFormed.uptime : EncodeWellFormed.Statement .uptime := ⟨rfl, by simp [Op.unusedZero, Instr.op, Instr.fields]⟩

theorem EncodeWellFormed.format (ms : Word64) : EncodeWellFormed.Statement (.format ms) := ⟨rfl, by simp [Op.unusedZero, Instr.op, Instr.fields]⟩

theorem EncodeWellFormed.kbdIntake : EncodeWellFormed.Statement .kbdIntake := ⟨rfl, by simp [Op.unusedZero, Instr.op, Instr.fields]⟩

theorem EncodeWellFormed.kbdDecode (b : Byte) : EncodeWellFormed.Statement (.kbdDecode b) := ⟨rfl, by simp [Op.unusedZero, Instr.op, Instr.fields]⟩

theorem EncodeWellFormed.kbdLedWrite : EncodeWellFormed.Statement .kbdLedWrite := ⟨rfl, by simp [Op.unusedZero, Instr.op, Instr.fields]⟩

theorem EncodeWellFormed.rbPush (e : Event) : EncodeWellFormed.Statement (.rbPush e) := 
  ⟨rfl, by simpa [Op.unusedZero, Instr.op, Instr.fields] using event_field_small e⟩

theorem EncodeWellFormed.rbPop : EncodeWellFormed.Statement .rbPop := ⟨rfl, by simp [Op.unusedZero, Instr.op, Instr.fields]⟩

end Sys2Proof.Laws
end

