-- ==== Sys2Proof/Laws/Quiet.lean ====
section
/-! SUPPORT. What the shared operations do: a step boundary inside interrupt context, a delivery's checks, the ports, an
uninterrupted push (R381, R202, R348, R356, R321). -/

namespace Sys2Proof.Machine

open Sys2Proof

/-! ### A step boundary inside interrupt context -/

/-- The part of the state that only operations and deliveries write. -/
structure OpOwned (s t : State) : Prop where
  ticks : t.ticks = s.ticks
  tmo : t.tmo = s.tmo
  dec : t.dec = s.dec
  rb : t.rb = s.rb
  inIrq : t.inIrq = s.inIrq
  ctx : t.ctx = s.ctx
  main : t.main = s.main
  hang : t.hang = s.hang
  ret : t.ret = s.ret
  refused : t.refused = s.refused
  refusals : t.refusals = s.refusals
  history : t.history = s.history
  freeCount : t.freeCount = s.freeCount
  savedIf : t.cpu.savedIf = s.cpu.savedIf
  running : t.running = s.running
  passed : t.passed = s.passed
  redirect : t.redirect = s.redirect

theorem OpOwned.refl (s : State) : OpOwned s s := ⟨rfl, rfl, rfl, rfl, rfl, rfl, rfl, rfl, rfl, rfl, rfl, rfl, rfl, rfl, rfl, rfl, rfl⟩

theorem OpOwned.trans {s t u : State} (h : OpOwned s t) (k : OpOwned t u) : OpOwned s u :=
  ⟨k.ticks.trans h.ticks, k.tmo.trans h.tmo, k.dec.trans h.dec, k.rb.trans h.rb, k.inIrq.trans h.inIrq,
   k.ctx.trans h.ctx, k.main.trans h.main, k.hang.trans h.hang, k.ret.trans h.ret, k.refused.trans h.refused,
   k.refusals.trans h.refusals, k.history.trans h.history, k.freeCount.trans h.freeCount, k.savedIf.trans h.savedIf,
   k.running.trans h.running, k.passed.trans h.passed, k.redirect.trans h.redirect⟩

theorem raise_opOwned (s : State) (f : Fault) : OpOwned s (s.raise f) :=
  ⟨rfl, rfl, rfl, rfl, rfl, rfl, rfl, rfl, rfl, rfl, rfl, rfl, rfl, rfl, rfl, rfl, rfl⟩

theorem acknowledge_opOwned (s t : State) (v : Byte) (h : s.acknowledge = some (v, t)) : OpOwned s t := by
  unfold State.acknowledge at h
  dsimp only at h
  split at h
  · cases h
  · split at h
    all_goals
      cases h
      exact ⟨rfl, rfl, rfl, rfl, rfl, rfl, rfl, rfl, rfl, rfl, rfl, rfl, rfl, rfl, rfl, rfl, rfl⟩

/-- Inside interrupt context a stimulus acts on the devices, the interrupt flag and the callbacks' text, or faults. -/
theorem stimulusNested_opOwned (x : Stimulus) (s : State) : OpOwned s (stimulusWith deliverNested x s) := by
  unfold stimulusWith
  cases x with
  | irq l =>
    dsimp only [State.raiseLine]
    split <;> exact ⟨rfl, rfl, rfl, rfl, rfl, rfl, rfl, rfl, rfl, rfl, rfl, rfl, rfl, rfl, rfl, rfl, rfl⟩
  | take =>
    dsimp only
    split
    · split
      · rename_i h; exact (acknowledge_opOwned _ _ _ h).trans (raise_opOwned _ _)
      · exact .refl s
    · exact .refl s
  | cli => exact ⟨rfl, rfl, rfl, rfl, rfl, rfl, rfl, rfl, rfl, rfl, rfl, rfl, rfl, rfl, rfl, rfl, rfl⟩
  | sti => exact ⟨rfl, rfl, rfl, rfl, rfl, rfl, rfl, rfl, rfl, rfl, rfl, rfl, rfl, rfl, rfl, rfl, rfl⟩
  | deliver v => dsimp only; split <;> exact ⟨rfl, rfl, rfl, rfl, rfl, rfl, rfl, rfl, rfl, rfl, rfl, rfl, rfl, rfl, rfl, rfl, rfl⟩
  | kbd b => exact ⟨rfl, rfl, rfl, rfl, rfl, rfl, rfl, rfl, rfl, rfl, rfl, rfl, rfl, rfl, rfl, rfl, rfl⟩
  | kbcBusy n => exact ⟨rfl, rfl, rfl, rfl, rfl, rfl, rfl, rfl, rfl, rfl, rfl, rfl, rfl, rfl, rfl, rfl, rfl⟩
  | kbcStuck => exact ⟨rfl, rfl, rfl, rfl, rfl, rfl, rfl, rfl, rfl, rfl, rfl, rfl, rfl, rfl, rfl, rfl, rfl⟩
  | kbdStatus b => exact ⟨rfl, rfl, rfl, rfl, rfl, rfl, rfl, rfl, rfl, rfl, rfl, rfl, rfl, rfl, rfl, rfl, rfl⟩
  | mask m1 m2 => exact ⟨rfl, rfl, rfl, rfl, rfl, rfl, rfl, rfl, rfl, rfl, rfl, rfl, rfl, rfl, rfl, rfl, rfl⟩
  | cb id text => exact ⟨rfl, rfl, rfl, rfl, rfl, rfl, rfl, rfl, rfl, rfl, rfl, rfl, rfl, rfl, rfl, rfl, rfl⟩

/-- A stimulus that asks for no delivery does the same wherever it lands, whatever a delivery is (R49, R136). -/
theorem stimulusWith_deliversNothing (deliver : Byte → State → State) (x : Stimulus) (s : State)
    (h : deliversNothing x = true) : stimulusWith deliver x s = landedOne s x := by
  cases x with
  | irq l =>
    have primary : ∀ l : Fin 16, (h : l.val < 8) → bitMask ⟨l.val, h⟩ = 1#8 <<< l.val := by decide
    have secondary : ∀ l : Fin 16, (h : 8 ≤ l.val) → bitMask ⟨l.val - 8, by omega⟩ = 1#8 <<< (l.val - 8) := by decide
    by_cases hl : l.val < 8
    · simp [stimulusWith, landedOne, State.raiseLine, hl, primary l hl]
    · simp [stimulusWith, landedOne, State.raiseLine, hl, secondary l (by omega)]
  | kbcBusy n =>
    cases hk : s.kbc.busy <;> simp [stimulusWith, landedOne, kbcSetBusy, hk]
  | take => exact nomatch h
  | deliver v => exact nomatch h
  | _ => rfl

theorem putBack_opOwned (s : State) (xs : List Stimulus) : OpOwned s (s.putBack xs) := by
  cases xs <;> exact ⟨rfl, rfl, rfl, rfl, rfl, rfl, rfl, rfl, rfl, rfl, rfl, rfl, rfl, rfl, rfl, rfl, rfl⟩

theorem stimuliNested_opOwned (xs : List Stimulus) (s : State) : OpOwned s (stimuliNested xs s) := by
  unfold stimuliNested
  induction xs generalizing s with
  | nil => exact .refl s
  | cons x xs ih =>
    rcases stimuliWith_cons _ deliverNested x xs s with ⟨_, e⟩ | ⟨_, e⟩
    · rw [e]; exact (stimulusNested_opOwned x s).trans (ih _)
    · rw [e]; exact (stimulusNested_opOwned x s).trans (putBack_opOwned _ xs)

/-- A step boundary inside interrupt context leaves what the block's operations own alone (R202). -/
theorem envI_opOwned (s : State) : OpOwned s (envI s) := by
  unfold envI
  split
  · exact .refl s
  · refine OpOwned.trans ?_ (stimuliNested_opOwned _ _)
    exact ⟨rfl, rfl, rfl, rfl, rfl, rfl, rfl, rfl, rfl, rfl, rfl, rfl, rfl, rfl, rfl, rfl, rfl⟩

/-- A return leaves main context where R236 has it go on. -/
theorem wake_eq_wokenMain (m : MainCtl) : m.wake = wokenMain m := by cases m <;> rfl

/-! ### A delivery's checks (R348) -/

/-- A delivery that passes the checks passes the vector its stub passes. -/
theorem deliveryCheck_wired (s : State) (v w : Byte) (h : wiredTo s v w) (ht : w = 32 → s.schedBusy = false) :
    deliveryCheck s v = .ok w := by
  obtain ⟨h1, h2, h3, h4, h5, h6, h7⟩ := h
  simp only [deliveryCheck, h1, h2, h3, h5, h6, h7, Nat.not_lt.2 h4]
  by_cases hw : w = 32
  · simp [ht hw]
  · simp [show ¬ w = 32#8 from hw]

/-! ### Ports (R12, R356) -/

/-- EOI_CMD clears the highest-priority in-service bit (R356). -/
theorem picCommand_eoi (p : Pic) : picCommand p eoiCmd = { p with isr := clearLowest p.isr } := rfl

/-- ICW1 starts the initialization sequence (R356). -/
theorem picCommand_icw1 (p : Pic) :
    picCommand p icw1 = { p with initStep := 1, imr := 0, isr := 0, irr := 0, needIcw4 := true } := rfl

/-- Outside the sequence a data write is the mask (R356). -/
theorem picData_mask (p : Pic) (x : Byte) (h : p.initStep = 0) : picData p x = { p with imr := x } := by
  simp [picData, h]

theorem portWrite_pic1Cmd (s : State) (x : Byte) :
    s.portWrite pic1Cmd x = { s with history := .portWrite pic1Cmd x :: s.history, pic1 := picCommand s.pic1 x } := rfl

theorem portWrite_pic1Data (s : State) (x : Byte) :
    s.portWrite pic1Data x = { s with history := .portWrite pic1Data x :: s.history, pic1 := picData s.pic1 x } := rfl

theorem portWrite_pic2Cmd (s : State) (x : Byte) :
    s.portWrite pic2Cmd x = { s with history := .portWrite pic2Cmd x :: s.history, pic2 := picCommand s.pic2 x } := rfl

theorem portWrite_pic2Data (s : State) (x : Byte) :
    s.portWrite pic2Data x = { s with history := .portWrite pic2Data x :: s.history, pic2 := picData s.pic2 x } := rfl

theorem portWrite_kbdData (s : State) (x : Byte) :
    s.portWrite kbdData x = { s with history := .portWrite kbdData x :: s.history, kbc := kbcReceive s.kbc x } := rfl

theorem portRead_kbdStatus (s : State) :
    s.portRead kbdStatus =
      { s with history := .portRead kbdStatus (kbcStatus s.kbc) :: s.history, kbc := kbcPolled s.kbc } := rfl

/-! ### Uninterrupted operations -/

/-- Going on from a quiet state. -/
theorem quiet_andThen (s : State) (k : State → State) (h : s.Quiet) : s.andThen k = k s := s.andThen_live k h.live_eq

/-- An uninterrupted push (R321). -/
theorem rbPushOp_quiet (e : Event) (s : State) (h : s.Quiet) : rbPushOp e s = afterPush e s := by
  obtain ⟨h1, h2, h3, h4⟩ := h
  simp [rbPushOp, State.andThen, State.live, h1, h2, h3, h4, afterPush]

/-- An uninterrupted emit (R275). -/
theorem emitNonzero_quiet (e : Event) (s : State) (h : s.Quiet) : emitNonzero e s = afterEmit e s := by
  unfold emitNonzero afterEmit
  split
  · rfl
  · exact rbPushOp_quiet e s h

end Sys2Proof.Machine
end

