-- ==== Sys2Proof/Machine/Pseudo.lean ====
section
/-! DEFINITION. The spec's way to write programs: the text of a request (R135) and the pseudo-instructions as inputs of a run
(R137). -/

namespace Sys2Proof.Machine

open Sys2Proof

/-- The mnemonic of an operation in the text syntax (R135). -/
def opText : Op → String
  | .setGate => "set_gate"
  | .idtInit => "idt_init"
  | .picRemap => "pic_remap"
  | .picEoi => "send_eoi"
  | .handle => "handle"
  | .tick => "tick"
  | .advance => "advance"
  | .schedule => "schedule"
  | .sleep => "sleep"
  | .uptime => "uptime"
  | .format => "format"
  | .kbdIntake => "kbd_intake"
  | .kbdDecode => "kbd_decode"
  | .kbdLedWrite => "led_write"
  | .rbPush => "rb_push"
  | .rbPop => "rb_pop"

/-- The operands of a request, in the order of the text syntax (R135). -/
def operandValues : Instr → List Nat
  | .setGate v h attr => [v.toNat, h.toNat, attr.toNat]
  | .idtInit => []
  | .picRemap o1 o2 => [o1.toNat, o2.toNat]
  | .picEoi line => [line.toNat]
  | .handle v => [v.toNat]
  | .tick => []
  | .advance => []
  | .schedule cb d => [cb.toNat, d.toNat]
  | .sleep ms => [ms.toNat]
  | .uptime => []
  | .format ms => [ms.toNat]
  | .kbdIntake => []
  | .kbdDecode b => [b.toNat]
  | .kbdLedWrite => []
  | .rbPush e => [e.toNat]
  | .rbPop => []

/-- A request in the text syntax, operands in decimal (R135). -/
def instrText (i : Instr) : String :=
  match operandValues i with
  | [] => opText i.op
  | x :: xs => opText i.op ++ " " ++ xs.foldl (fun acc y => acc ++ ", " ++ toString y) (toString x)

/-- A request of main context with no stimulus during it. -/
def mainRequest (i : Instr) : Input := .request .main (encode i) []

/-- `boot` (R137, R388). -/
def pseudoBoot : List Input :=
  [.stim [.cli] [], mainRequest .idtInit, mainRequest (.picRemap offset1 offset2), .stim [.sti] []]

/-- `irq l`, the CPU then taking the line where it is ready (R136, R349). -/
def pseudoIrq (l : Fin 16) : List Input := [.stim [.irq l, .take] []]

/-- `key b1 ... bn` (R137). -/
def pseudoKey (bs : List Byte) : List Input := bs.flatMap fun b => .stim [.kbd b] [] :: pseudoIrq 1

/-- `ticks n` (R137). -/
def pseudoTicks (n : Nat) : List Input := (List.replicate n (pseudoIrq 0)).flatten

/-- `drain` (R137), with no stimulus during its pops. -/
def pseudoDrain : List Input := [.drain []]

end Sys2Proof.Machine
end

