-- ==== Sys2Proof/Tests/Slice0.lean ====
section
/-! SUPPORT. Tests, each from spec/ (95_test_vectors.md names a vector V..), and the witnesses of the obligations'
hypotheses. -/

namespace Sys2Proof.Tests

open Sys2Proof Sys2Proof.Machine

set_option maxRecDepth 8000

/-! ### Helpers -/

/-- The next state passes the check. -/
def nextIs (o : Host.Outcome State Fault Refusal) (p : State → Bool) : Bool :=
  match o with
  | .next t => p t
  | .fault _ => false
  | .refused _ => false

/-- Main context (the state after reset), interrupt context, a callback, the environment. -/
def sM : State := State.reset
@[inherit_doc sM] def sI : State := { State.reset with ctx := .interrupt }
@[inherit_doc sM] def sC : State := { State.reset with ctx := .callback }
@[inherit_doc sM] def sE : State := { State.reset with ctx := .environment }

/-- A table with the one gate `v`, to STUB[w], loaded; maskable interrupts on. -/
def wired (v : Byte) (w : Nat) : State :=
  { State.reset with
    mem := writeGate [] (slotAddr Config.c0.idtBase v) (stubAddr Config.c0 w) 0x8E
    cpu := { idtr := { limit := 0x0FFF, base := Config.c0.idtBase }, idtLoaded := true, ifl := true, savedIf := false } }

/-- The decoder `d` in interrupt context. -/
def withDec (d : Decoder) : State := { sI with dec := d }

/-- The decoder after reset. -/
def d0 : Decoder := State.reset.dec

/-- One active entry in slot 3, callback 7, due at 100 (VT3), whose callback does `text`. -/
def timers (now : Word64) (text : CallbackText) : State :=
  { sI with ticks := now, tmo := sI.tmo.set 3 { cb := 7, target := 100, active := true }, cbs := [(7, text)] }

/-- A callback that issues nothing. -/
def silent : CallbackText := { requests := [], returns := true }

/-- Every timeout slot active. -/
def fullTable : Vector Timeout 16 := Vector.replicate 16 { cb := 1, target := 5, active := true }

/-- A callback that does not return. -/
def stuckText : CallbackText := { requests := [], returns := false }

/-- A record whose one unused bit is set. -/
def ill (op a : Byte) (b c : Word64) : Bool := Request.wellFormed { op := op, a := a, b := b, c := c }

/-! ### Well-formedness: an ill-formed record for each check (R130, R132; VI5, VI8, VP7, VQ1 to VQ3, VQ5, VQ6) -/

theorem test_wf_selector_zero : ill 0x00 0 0 0 = false := by decide
theorem test_wf_selector_above : ill 0x11 0 0 0 = false := by decide
theorem test_wf_setGate_c : ill 0x01 0x21 0x1 0x18E = false := by decide
theorem test_wf_idtInit_a : ill 0x02 0x01 0 0 = false := by decide
theorem test_wf_idtInit_b : ill 0x02 0 0x1 0 = false := by decide
theorem test_wf_idtInit_c : ill 0x02 0 0 0x1 = false := by decide
theorem test_wf_picRemap_b : ill 0x03 0x20 0x128 0 = false := by decide
theorem test_wf_picRemap_c : ill 0x03 0x20 0x28 0x1 = false := by decide
theorem test_wf_picEoi_b : ill 0x04 0 0x1 0 = false := by decide
theorem test_wf_handle_c : ill 0x05 0x20 0 0x1 = false := by decide
theorem test_wf_tick_a : ill 0x06 0x01 0 0 = false := by decide
theorem test_wf_advance_b : ill 0x07 0 0x1 0 = false := by decide
theorem test_wf_schedule_a : ill 0x08 0x01 0x1 0x64 = false := by decide
theorem test_wf_sleep_a : ill 0x09 0x01 0x1 0 = false := by decide
theorem test_wf_sleep_c : ill 0x09 0 0x1 0x1 = false := by decide
theorem test_wf_uptime_a : ill 0x0A 0x01 0 0 = false := by decide
theorem test_wf_format_c : ill 0x0B 0 0x1 0x1 = false := by decide
theorem test_wf_kbdIntake_a : ill 0x0C 0x01 0 0 = false := by decide
theorem test_wf_kbdDecode_b : ill 0x0D 0x1E 0x1 0 = false := by decide
theorem test_wf_kbdLedWrite_c : ill 0x0E 0 0 0x1 = false := by decide
theorem test_wf_rbPush_b : ill 0x0F 0 0x10061 0 = false := by decide
theorem test_wf_rbPush_a : ill 0x0F 0x01 0x61 0 = false := by decide
theorem test_wf_rbPop_a : ill 0x10 0x01 0 0 = false := by decide

/-- VQ7: the pointer record inside the table; and one byte of it below the table. -/
theorem test_wf_config_overlap :
    Config.wellFormed { Config.c0 with idtpAddr := 0x105FF8 } = false ∧
    Config.wellFormed { Config.c0 with idtpAddr := 0x104FF7 } = false ∧
    Config.wellFormed { Config.c0 with idtpAddr := 0x104FF6 } = true ∧
    Config.wellFormed { Config.c0 with idtpAddr := 0x106000 } = true := by decide

theorem test_step_config_overlap :
    step { sM with cfg := { Config.c0 with idtpAddr := 0x105FF8 } } = .refused .configOverlap := rfl

/-! ### Decoding: a record written out for every operation (R130, R131; the encodings of 95_test_vectors.md) -/

theorem test_decode_setGate :
    decode 0x000000000000008EFFFF8000001023452101 = .ok (.setGate 0x21 0xFFFF800000102345 0x8E) := by decide
theorem test_decode_idtInit : decode 0x000000000000000000000000000000000002 = .ok .idtInit := by decide
theorem test_decode_picRemap : decode 0x000000000000000000000000000000282003 = .ok (.picRemap 0x20 0x28) := by decide
theorem test_decode_picEoi : decode 0x000000000000000000000000000000000904 = .ok (.picEoi 9) := by decide
theorem test_decode_handle : decode 0x000000000000000000000000000000002105 = .ok (.handle 0x21) := by decide
theorem test_decode_tick : decode 0x000000000000000000000000000000000006 = .ok .tick := by decide
theorem test_decode_advance : decode 0x000000000000000000000000000000000007 = .ok .advance := by decide
theorem test_decode_schedule : decode 0x000000000000006400000000000000010008 = .ok (.schedule 1 100) := by decide
theorem test_decode_sleep : decode 0x000000000000000000000000000000020009 = .ok (.sleep 2) := by decide
theorem test_decode_uptime : decode 0x00000000000000000000000000000000000A = .ok .uptime := by decide
theorem test_decode_format : decode 0x0000000000000000000000000038CEFC000B = .ok (.format 3723004) := by decide
theorem test_decode_kbdIntake : decode 0x00000000000000000000000000000000000C = .ok .kbdIntake := by decide
theorem test_decode_kbdDecode : decode 0x000000000000000000000000000000001E0D = .ok (.kbdDecode 0x1E) := by decide
theorem test_decode_kbdLedWrite : decode 0x00000000000000000000000000000000000E = .ok .kbdLedWrite := by decide
theorem test_decode_rbPush : decode 0x00000000000000000000000000000061000F = .ok (.rbPush 0x0061) := by decide
theorem test_decode_rbPop : decode 0x000000000000000000000000000000000010 = .ok .rbPop := by decide

/-- VQ1, VQ2, VQ3, VI5. -/
theorem test_decode_refusals :
    decode 0x00 = .unknownOp ∧ decode 0x11 = .unknownOp ∧ decode 0x010A = .nonzeroUnused .uptime ∧
    decode 0x000000000000018E00000000000000012101 = .nonzeroUnused .setGate := by decide

/-- The record's byte order of the B field: 0x0123456789ABCDEF at bits 79:16. -/
theorem test_encode_schedule :
    encode (.schedule 0x0123456789ABCDEF 0xFEDCBA9876543210) = 0xFEDCBA98765432100123456789ABCDEF0008 := by decide

/-- R135's example line, with its operands in decimal. -/
theorem test_instrText : instrText (.schedule 1 100) = "schedule 1, 100" ∧ instrText .tick = "tick" := by decide

/-- R137: `key 1E` is a byte, its line, and its taking. -/
theorem test_pseudoKey : pseudoKey [0x1E] = [.stim [.kbd 0x1E] [], .stim [.irq 1, .take] []] := rfl

/-- R341: the vectors whose error code the CPU pushes. -/
theorem test_errorCodes :
    (List.range 32).filter (fun v => pushesErrorCode (BitVec.ofNat 8 v)) = [8, 10, 11, 12, 13, 14, 17, 21, 29, 30] := by
  decide

theorem test_tableWord : decodeTableWord 8 0x06 = some .tick ∧ decodeTableWord 8 0x00 = none := by decide

/-! ### One step of each operation -/

/-- VI1. -/
theorem test_setGate_bytes :
    nextIs (exec (.setGate 0x21 0xFFFF800000102345 0x8E) sM) (fun t =>
      readBytes t.mem 0x105210 16 ==
        [0x45, 0x23, 0x08, 0x00, 0x00, 0x8E, 0x10, 0x00, 0x00, 0x80, 0xFF, 0xFF, 0x00, 0x00, 0x00, 0x00] &&
      t.gateBusy == none) = true := by decide

/-- VI3: the slot is not zeroed, its selector is 0x0008. -/
theorem test_setGate_zero_handler :
    nextIs (exec (.setGate 0xFF 0 0) sM) (fun t => t.mem == [⟨0x105FF2, 0x08⟩]) = true := by decide

/-- VI6, in parts: slot 0x2F after step 3, and the pointer record after step 4. -/
theorem test_idtInit_parts :
    readBytes (installStubs [0x2F] sM).mem 0x1052F0 16 =
      [0xF0, 0x12, 0x08, 0x00, 0x00, 0x8E, 0x10, 0x00, 0x00, 0x00, 0x00, 0x00, 0x00, 0x00, 0x00, 0x00] ∧
    readBytes (writePointer [] Config.c0) 0x104FF0 10 =
      [0xFF, 0x0F, 0x00, 0x50, 0x10, 0x00, 0x00, 0x00, 0x00, 0x00] := by decide

/-- VI7. -/
theorem test_idtInit_live :
    nextIs (exec .idtInit { sM with cpu := { sM.cpu with ifl := true } }) (fun t => t.faults == [.liveInit] && t.mem == [])
      = true := by decide

/-- VP2: masks BB and 02. -/
theorem test_picRemap_masks :
    nextIs (exec (.picRemap 0x20 0x28)
        { sM with pic1 := { sM.pic1 with imr := 0xBB }, pic2 := { sM.pic2 with imr := 0x02 } }) (fun t =>
      t.history.take 2 == [.portWrite 0xA1 0x02, .portWrite 0x21 0xB8] && t.pic1.vbase == 0x20 && t.pic2.vbase == 0x28 &&
      t.pic1.imr == 0xB8 && t.pic1.initStep == 0) = true := by decide

/-- VP5: LiveInit before OffsetBelow32. -/
theorem test_picRemap_order :
    nextIs (exec (.picRemap 0x08 0x70) { sM with cpu := { sM.cpu with ifl := true } }) (fun t => t.faults == [.liveInit])
      = true := by decide

/-- VP10. -/
theorem test_picEoi_secondary :
    nextIs (exec (.picEoi 8)
        { sI with pic1 := { sI.pic1 with isr := 0x04 }, pic2 := { sI.pic2 with isr := 0x01 } }) (fun t =>
      t.history == [.portWrite 0x20 0x20, .portWrite 0xA0 0x20] && t.pic1.isr == 0 && t.pic2.isr == 0) = true := by decide

/-- VP13: the lowest-numbered set bit. -/
theorem test_picEoi_priority :
    nextIs (exec (.picEoi 7) { sI with pic1 := { sI.pic1 with isr := 0x05 } }) (fun t => t.pic1.isr == 0x04) = true := by
  decide

/-- VD5. -/
theorem test_handle_keyboard :
    nextIs (exec (.handle 0x21) { sE with kbc := { sE.kbc with out := some 0x1E } }) (fun t =>
      ringEvents t.rb == [0x0061] && t.history == [.portWrite 0x20 0x20, .portRead 0x60 0x1E] && !t.inIrq) = true := by
  decide

/-- VD11. -/
theorem test_handle_unexpected :
    nextIs (exec (.handle 0x30) sE) (fun t => t.history == [.report .unexpected 48]) = true := by decide

/-- VT2. -/
theorem test_tick_wraps :
    nextIs (exec .tick { sI with ticks := 0xFFFFFFFFFFFFFFFF }) (fun t => t.ticks == 0) = true := by decide

/-- VT3. -/
theorem test_advance_fires :
    nextIs (exec .advance (timers 100 silent)) (fun t => !t.tmo[3].active && t.history == [.invoke 7]) = true := by decide

/-- VT11: the slot just freed is used again, and not scanned again. -/
theorem test_advance_callback_schedules :
    nextIs (exec .advance (timers 100 { requests := [encode (.schedule 2 0)], returns := true })) (fun t =>
      t.tmo[0] == { cb := 2, target := 100, active := true } && t.history == [.invoke 7]) = true := by decide

/-- R228: a callback that does not return keeps the scan from slot 9, which is due too. -/
theorem test_advance_callback_hangs :
    nextIs (exec .advance
        { timers 100 stuckText with tmo := (timers 100 silent).tmo.set 9 { cb := 7, target := 0, active := true } }) (fun t =>
      t.hang == some (.callback 7) && !t.tmo[3].active && t.tmo[9].active && t.history == [.invoke 7]) = true := by decide

/-- VT4. -/
theorem test_schedule_first_slot :
    nextIs (exec (.schedule 1 100) { sM with ticks := 5 }) (fun t =>
      t.tmo[0] == { cb := 1, target := 105, active := true } && !t.schedBusy) = true := by decide

/-- VT7. -/
theorem test_schedule_full :
    nextIs (exec (.schedule 3 1) { sM with tmo := fullTable }) (fun t => t.tmo == fullTable) = true := by decide

/-- VT16, VT17: `sleep 0` returns at once; `sleep 3` goes to its Halt. -/
theorem test_sleep :
    nextIs (exec (.sleep 0) { sM with ticks := 10 }) (fun t => t.main == .idle) = true ∧
    nextIs (exec (.sleep 3) { sM with ticks := 10 }) (fun t => t.main == .sleepHalt 10 3) = true := by decide

/-- VT20: the difference is taken modulo 2^64. -/
theorem test_sleep_wraps :
    mainStep { sM with ticks := 0, main := .sleepCheck 0xFFFFFFFFFFFFFFFE 4 } =
      { sM with ticks := 0, main := .sleepHalt 0xFFFFFFFFFFFFFFFE 4 } ∧
    mainStep { sM with ticks := 2, main := .sleepCheck 0xFFFFFFFFFFFFFFFE 4 } = { sM with ticks := 2 } := ⟨rfl, rfl⟩

/-- VT21. -/
theorem test_uptime : nextIs (exec .uptime { sM with ticks := 3723004 }) (fun t => t.ret == .ticks 3723004) = true := by
  decide

/-- VF8, VF12. -/
theorem test_format :
    nextIs (exec (.format 3723004) sM) (fun t => t.ret == .time 1 2 3 4) = true ∧
    nextIs (exec (.format 0xFFFFFFFFFFFFFFFF) sM) (fun t => t.ret == .time 5124095576030 25 51 615) = true := by decide

/-- R260, R89: the byte is taken. -/
theorem test_kbdIntake :
    nextIs (exec .kbdIntake { sI with kbc := { sI.kbc with out := some 0x1E } }) (fun t =>
      ringEvents t.rb == [0x0061] && t.kbc.out == none) = true := by decide

/-- VK13's second byte: KEY_RIGHT, frame E0 4D. -/
theorem test_kbdDecode_extended :
    nextIs (exec (.kbdDecode 0x4D) (withDec { d0 with ext := true, frame := #v[0xE0, 0, 0, 0], frameLen := 1 })) (fun t =>
      ringEvents t.rb == [0x0103] && t.dec.frameLen == 2 && !t.dec.ext) = true := by decide

/-- VK17's last byte: KEY_PRTSCR, the fake shift stays. -/
theorem test_kbdDecode_printScreen :
    nextIs (exec (.kbdDecode 0x37)
        (withDec { d0 with shift := true, ext := true, frame := #v[0xE0, 0x2A, 0xE0, 0], frameLen := 3 })) (fun t =>
      ringEvents t.rb == [0x0116] && t.dec.shift && !t.dec.ext && t.dec.frameLen == 0) = true := by decide

/-- VL3. -/
theorem test_kbdLedWrite_busy :
    nextIs (exec .kbdLedWrite
        { sI with dec := { d0 with caps := true, num := true, scroll := true }, kbc := { sI.kbc with busy := .reads 2 } })
      (fun t => t.history ==
        [.portWrite 0x60 0x07, .portRead 0x64 0x00, .portWrite 0x60 0xED, .portRead 0x64 0x00, .portRead 0x64 0x02,
         .portRead 0x64 0x02] && t.kbc.leds == 7) = true := by decide

/-- VB4: the head wraps. -/
theorem test_rbPush_wraps :
    nextIs (exec (.rbPush 0x100) { sI with rb := { sI.rb with head := 255, tail := 10 } }) (fun t =>
      t.rb.buf[255] == 0x0100 && t.rb.head == 0) = true := by decide

/-- VB5: a full ring drops. -/
theorem test_rbPush_full :
    nextIs (exec (.rbPush 0x62) { sI with rb := { sI.rb with head := 9, tail := 10 } }) (fun t =>
      t.rb.head == 9 && t.rb.tail == 10 && t.rb.buf[9] == 0) = true := by decide

/-- VB6. -/
theorem test_rbPop_wraps :
    nextIs (exec .rbPop { sM with rb := { sM.rb with buf := sM.rb.buf.set 255 0x41, head := 0, tail := 255 } }) (fun t =>
      t.ret == .event 0x0041 && t.rb.tail == 0) = true := by decide

/-- VB11: a push lands between steps 2 and 3. -/
theorem test_rbPop_preempted :
    nextIs (exec .rbPop
        { wired 33 33 with
          rb := { buf := sM.rb.buf.set 0 0x61, head := 1, tail := 0 }
          script := [[], [.kbd 0x30, .deliver 33]] }) (fun t =>
      t.ret == .event 0x0061 && ringEvents t.rb == [0x0062]) = true := by decide

/-! ### Delivery -/

/-- VE1. -/
theorem test_deliver_noIdt :
    nextIs (step { sM with inputs := [.stim [.deliver 2] []] }) (fun t => t.faults == [.noIdt]) = true := by decide

/-- VE2: the line is requested, taken, counted and acknowledged, and `cpu.if` is true again. -/
theorem test_take_timer :
    nextIs (step
        { wired 32 32 with
          pic1 := { sM.pic1 with imr := 0xFC, irr := 0x01, vbase := 0x20 }
          inputs := [.stim [.take] []] }) (fun t =>
      t.ticks == 1 && t.pic1.irr == 0 && t.pic1.isr == 0 && t.cpu.ifl && t.history == [.portWrite 0x20 0x20]) = true := by
  decide

/-- VE11: the timer's delivery inside SCHEDULE. -/
theorem test_deliver_timeoutRace :
    nextIs (exec (.schedule 1 10) { wired 32 32 with script := [[.deliver 32]] }) (fun t =>
      t.faults == [.timeoutRace] && t.schedBusy) = true := by decide

/-- R355: an NMI that lands inside HANDLE of a delivery to main context between operations. -/
theorem test_nested_nmi :
    nextIs (step { wired 33 33 with inputs := [.stim [.deliver 33] [[.deliver 2]]] }) (fun t => t.faults == [.reentry])
      = true := by decide

/-- `wired 32 32` with the gate of the NMI beside it, and the timer's line ready. -/
def timerAndNmi : State :=
  { wired 32 32 with
    mem := writeGate (wired 32 32).mem (slotAddr Config.c0.idtBase 2) (stubAddr Config.c0 2) 0x8E
    pic1 := { sM.pic1 with imr := 0xFC, irr := 0x01, vbase := 0x20 } }

/-- R358 item 2: at one boundary the NMI is taken before the ready timer line. -/
theorem test_nmi_first :
    nextIs (step { timerAndNmi with inputs := [.stim [.take, .deliver 2] []] }) (fun t =>
      t.history == [.portWrite 0x20 0x20, .report .exception 2] && t.ticks == 1) = true := by decide

/-- R349 step 3: primary bit 2 alone is not ready. -/
theorem test_line_2_alone :
    nextIs (step { wired 32 32 with
        pic1 := { sM.pic1 with imr := 0, irr := 0x04, vbase := 0x20 }, inputs := [.stim [.take] []] }) (fun t =>
      t.pic1.irr == 0x04 && t.history == []) = true := by decide

/-- VL4 in a delivery between operations: the controller is busy for one read after the command byte. -/
theorem test_led_busy_after_command :
    nextIs (step { wired 33 33 with
        kbc := { sM.kbc with out := some 0x3A }
        inputs := [.stim [.deliver 33] (List.replicate 10 [] ++ [[.kbcBusy 1]])] }) (fun t =>
      t.history == [.portWrite 0x20 0x20, .portWrite 0x60 0x04, .portRead 0x64 0x00, .portRead 0x64 0x02,
        .portWrite 0x60 0xED, .portRead 0x64 0x00, .portRead 0x60 0x3A] && t.kbc.leds == 4) = true := by decide

/-- R394: the LEDs show the flags, whatever the keyboard awaited at reset; R12: the status bits other than bit 1 are the
environment's draw. -/
theorem test_kbdLedWrite_draws :
    nextIs (exec .kbdLedWrite
        { sI with
          dec := { d0 with num := true }, kbc := { sI.kbc with ledPending := true, leds := 5 }
          script := [[.kbdStatus 0xFF]] }) (fun t =>
      t.kbc.leds == 2 && !t.kbc.ledPending && t.history.getLast? == some (.portRead 0x64 0xFD)) = true := by decide

/-- Interrupt context hung at the wait of KBD_LED_WRITE (VL5), with a batch as its next input. -/
def hungIn (batch : List Stimulus) : State :=
  { sI with hang := some .ledWait, kbc := { sI.kbc with busy := .forever }, inputs := [.stim batch []] }

/-- R349 step 1 and R355: a hung interrupt context takes a whole batch; the next step polls. -/
theorem test_hang_takes_batch :
    nextIs (step (hungIn [.irq 0, .sti, .irq 1])) (fun t =>
      t.pic1.irr == 3 && t.cpu.ifl && t.script == [] &&
      nextIs (step t) (fun u => u.hang == some .ledWait && u.history == [.portRead 0x64 0x02])) = true ∧
    nextIs (step (hungIn [.irq 0, .deliver 2])) (fun t => t.pic1.irr == 1 && t.faults == [.reentry]) = true := by
  decide

/-- R6, D27: the reference that an operand denotes is the configuration's. -/
theorem test_callbackRef :
    callbackRef Config.c0 7 = 7 ∧ callbackRef { Config.c0 with callbackRefs := [(7, 1)] } 7 = 1 := by decide

/-- R137, VB8: a drain pops until EV_NONE, here a stored 0. -/
theorem test_drain :
    nextIs (step { sM with
        rb := { buf := (sM.rb.buf.set 0 0x61).set 2 0x62, head := 3, tail := 0 }, inputs := pseudoDrain }) (fun t =>
      t.ret == .event 0x61 && t.inputs == [.drain []] &&
      nextIs (step t) (fun u => u.ret == .event 0 && u.inputs == [] && u.rb.tail == 2)) = true := by decide

/-! ### Witnesses: a state and operands that meet each obligation's hypotheses -/

theorem quiet_sM : sM.Quiet := ⟨rfl, rfl, rfl, rfl⟩
theorem quiet_sI : sI.Quiet := ⟨rfl, rfl, rfl, rfl⟩
theorem quiet_sC : sC.Quiet := ⟨rfl, rfl, rfl, rfl⟩
theorem quiet_sE : sE.Quiet := ⟨rfl, rfl, rfl, rfl⟩

/-- The next input of a state after reset. -/
def sIn (x : Input) : State := { sM with inputs := [x] }

theorem wellFormed_c0 : Config.c0.wellFormed = true := by decide

theorem ready_sIn (x : Input) : (sIn x).Ready := ⟨wellFormed_c0, ⟨rfl, rfl, rfl, rfl⟩, rfl, rfl, rfl⟩

theorem witness_StepRunsDecodedRequest :
    ∃ t, (sIn (.request .main 0x0A [])).cfg.wellFormed = true ∧ (sIn (.request .main 0x0A [])).faults = [] ∧
      (sIn (.request .main 0x0A [])).hang = none ∧ (sIn (.request .main 0x0A [])).main = .idle ∧
      (sIn (.request .main 0x0A [])).inputs = [.request .main 0x0A []] ∧ decode 0x0A = .ok .uptime ∧
      exec .uptime (({ sIn (.request .main 0x0A []) with inputs := [] } : State).begin .main (some .uptime) []) = .next t :=
  ⟨_, by decide, rfl, rfl, rfl, rfl, by decide, rfl⟩

theorem witness_EncodeDecodedRecord : decode 0x00000000000000000000000000000061000F = .ok (.rbPush 0x0061) := by decide

theorem witness_UnknownSelectorRefused :
    (∀ w ∈ ([0x00, 0x11, 0xFF] : List RequestWord),
      (sIn (.request .main w [])).Ready ∧ (sIn (.request .main w [])).main = .idle ∧
      (sIn (.request .main w [])).inputs = [.request .main w []]) ∧
    (BitVec.extractLsb' 0 8 (0x00 : RequestWord) = 0x00 ∧ 0x11 ≤ (BitVec.extractLsb' 0 8 (0x11 : RequestWord)).toNat ∧
      0x11 ≤ (BitVec.extractLsb' 0 8 (0xFF : RequestWord)).toNat) :=
  ⟨fun w _ => ⟨ready_sIn _, rfl, rfl⟩, by decide⟩

/-- From main context (NonzeroUnused), from interrupt context (WrongContext, VQ5's kind), from a callback. -/
theorem witness_NonzeroUnusedRefused :
    (∀ c ∈ [Context.main, .interrupt, .callback],
      (sIn (.request c 0x0102 [])).Ready ∧ (sIn (.request c 0x0102 [])).main = .idle ∧
      (sIn (.request c 0x0102 [])).inputs = [.request c 0x0102 []]) ∧
    Op.ofSelector (BitVec.extractLsb' 0 8 (0x0102 : RequestWord)) = some .idtInit ∧
    Op.idtInit.unusedZero (Request.ofWord 0x0102) = false :=
  ⟨fun c _ => ⟨ready_sIn _, rfl, rfl⟩, by decide⟩

/-- VT14: a callback that requests RB_POP, and TICK. -/
def refusedText : CallbackText := { requests := [Instr.rbPop, .tick].map encode, returns := true }

theorem witness_WrongContextRefused :
    (sM.ctx = .main ∧ (Instr.rbPush 0x61).op ∈ [Op.picEoi, .handle, .tick, .advance, .kbdIntake, .kbdDecode, .kbdLedWrite, .rbPush]) ∧
    (sI.ctx = .interrupt ∧ Instr.rbPop.op ∈ [Op.idtInit, .picRemap, .handle, .schedule, .rbPop]) ∧
    (sC.ctx = .callback ∧ Instr.rbPop.op ∉ [Op.schedule, .uptime, .format]) ∧
    (sE.ctx = .environment ∧ Instr.tick.op ≠ .handle) ∧
    ((timers 100 refusedText).Quiet ∧ (timers 100 refusedText).ctx = .interrupt ∧
      (∀ k : Fin 16, due (timers 100 refusedText).tmo[k] 100 = true ↔ k = 3) ∧
      (timers 100 refusedText).cbs.lookup 7 = some { requests := [Instr.rbPop, .tick].map encode, returns := true } ∧
      ∀ r ∈ [Instr.rbPop, .tick], r.op ∉ [Op.schedule, .uptime, .format]) :=
  ⟨by decide, by decide, by decide, by decide, ⟨rfl, rfl, rfl, rfl⟩, rfl, by decide, rfl, by decide⟩

theorem witness_FaultStopsRun :
    ({ sM with faults := [.noIdt] } : State).cfg.wellFormed = true ∧
    ({ sM with faults := [.noIdt] } : State).faults = [.noIdt] := by decide

/-- VQ7's configuration overlaps (at 0x105FFF, the table's last byte); C0 does not. -/
theorem witness_OverlappingConfigRefused :
    (∃ a, inRegion 0x105000 4096 a ∧ inRegion 0x105FF8 10 a) ∧
    ¬ ∃ a, inRegion sM.cfg.idtBase 4096 a ∧ inRegion sM.cfg.idtpAddr 10 a := by
  refine ⟨⟨0x105FFF, ⟨4095, by decide, by decide⟩, ⟨7, by decide, by decide⟩⟩, ?_⟩
  rintro ⟨a, ⟨j, hj, rfl⟩, ⟨k, hk, e⟩⟩
  have e' : (0x105000 + j) % 2 ^ 64 = (0x104FF0 + k) % 2 ^ 64 := by
    have : byteAt 0x105000 j = byteAt 0x104FF0 k := e
    simpa [byteAt] using this
  omega

theorem witness_SetGateWritesDescriptor :
    (sM.Quiet ∧ sM.ctx = .main ∧ sM.mem.wf = true) ∧ (sI.Quiet ∧ sI.ctx = .interrupt ∧ sI.mem.wf = true) :=
  ⟨⟨quiet_sM, rfl, rfl⟩, ⟨quiet_sI, rfl, rfl⟩⟩

theorem witness_GateHandlerReassembles :
    (sM.Quiet ∧ sM.ctx = .main ∧ sM.mem.wf = true) ∧ (sI.Quiet ∧ sI.ctx = .interrupt ∧ sI.mem.wf = true) :=
  witness_SetGateWritesDescriptor

theorem witness_IdtInitBuildsTable :
    sM.Quiet ∧ sM.ctx = .main ∧ sM.cpu.ifl = false ∧ sM.mem.wf = true ∧ sM.cfg.wellFormed = true :=
  ⟨quiet_sM, rfl, rfl, rfl, by decide⟩

theorem witness_InitChecksInOrder :
    (({ sM with cpu := { sM.cpu with ifl := true } } : State).Quiet ∧
      ({ sM with cpu := { sM.cpu with ifl := true } } : State).ctx = .main) ∧
    (sM.Quiet ∧ sM.ctx = .main ∧ sM.cpu.ifl = false ∧ (0x1F : Byte).toNat < 32) :=
  ⟨⟨⟨rfl, rfl, rfl, rfl⟩, rfl⟩, quiet_sM, rfl, rfl, by decide⟩

/-- At the least admitted offset, and at the greatest. -/
theorem witness_PicRemapProgramsControllers :
    sM.Quiet ∧ sM.ctx = .main ∧ sM.cpu.ifl = false ∧ 32 ≤ (0x20 : Byte).toNat ∧ 32 ≤ (0xFF : Byte).toNat :=
  ⟨quiet_sM, rfl, rfl, by decide, by decide⟩

theorem witness_BootRemapState :
    sM.Quiet ∧ sM.ctx = .main ∧ sM.cpu.ifl = false ∧ sM.pic1.imr = 0xFF ∧ sM.pic2.imr = 0xFF :=
  ⟨quiet_sM, rfl, rfl, rfl, rfl⟩

theorem witness_PicEoiAcknowledges :
    (sI.Quiet ∧ sI.ctx = .interrupt ∧ (7 : Byte).toNat < 8 ∧ 8 ≤ (8 : Byte).toNat ∧ 8 ≤ (0xFF : Byte).toNat) ∧
    ((0x28 : Byte).getLsbD (3 : Fin 8) = true ∧ ∀ k : Fin 8, k < 3 → (0x28 : Byte).getLsbD k = false) :=
  ⟨⟨quiet_sI, rfl, by decide, by decide, by decide⟩, by decide⟩

/-- Each clause at both ends of its range. -/
theorem witness_HandleReportsOrAcknowledges :
    sE.Quiet ∧ sE.ctx = .environment ∧ (0 : Byte).toNat ≤ 31 ∧ (31 : Byte).toNat ≤ 31 ∧ 48 ≤ (48 : Byte).toNat ∧
    48 ≤ (255 : Byte).toNat ∧ 34 ≤ (34 : Byte).toNat ∧ (39 : Byte).toNat ≤ 39 ∧ 40 ≤ (40 : Byte).toNat ∧
    (47 : Byte).toNat ≤ 47 :=
  ⟨quiet_sE, rfl, by decide⟩

/-- The callbacks of `timers` are known and silent. -/
theorem silent_timers (now : Word64) (c : Context) : callbacksSilent { timers now silent with ctx := c } := by
  intro i
  revert i
  exact (by decide : ∀ i : Fin 16, (timers 0 silent).tmo[i].active = true →
    (timers 0 silent).cbs.lookup (timers 0 silent).tmo[i].cb = some silent)

theorem witness_HandleTimerLine :
    ({ timers 99 silent with ctx := .environment } : State).Quiet ∧
    callbacksSilent { timers 99 silent with ctx := .environment } :=
  ⟨⟨rfl, rfl, rfl, rfl⟩, silent_timers _ _⟩

theorem witness_HandleKeyboardLine :
    ∃ t, sE.Quiet ∧ sE.ctx = .environment ∧ intakeOp { sE with inIrq := true } = t ∧ t.Quiet :=
  ⟨_, quiet_sE, rfl, rfl, ⟨rfl, rfl, rfl, rfl⟩⟩

theorem witness_TickCountsAndFires :
    (timers 99 silent).Quiet ∧ (timers 99 silent).ctx = .interrupt ∧ callbacksSilent (timers 99 silent) :=
  ⟨⟨rfl, rfl, rfl, rfl⟩, rfl, silent_timers _ .interrupt⟩

/-- `timers` with the slots below 3 taken by entries not due, and a callback that schedules. -/
def rescheduling : State :=
  { timers 100 { requests := [encode (.schedule 2 0)], returns := true } with
    tmo := #v[⟨1, 200, true⟩, ⟨1, 200, true⟩, ⟨1, 200, true⟩, ⟨7, 100, true⟩, ⟨0, 0, false⟩, ⟨0, 0, false⟩, ⟨0, 0, false⟩,
      ⟨0, 0, false⟩, ⟨0, 0, false⟩, ⟨0, 0, false⟩, ⟨0, 0, false⟩, ⟨0, 0, false⟩, ⟨0, 0, false⟩, ⟨0, 0, false⟩,
      ⟨0, 0, false⟩, ⟨0, 0, false⟩] }

/-- The free slot is the fired one (`j = i`), and one below it (`j < i`); and a callback that does not return. -/
theorem witness_CallbackSchedulesDuringScan :
    (rescheduling.Quiet ∧ rescheduling.ctx = .interrupt ∧
      (∀ k : Fin 16, due rescheduling.tmo[k] rescheduling.ticks = true ↔ k = 3) ∧
      rescheduling.cbs.lookup rescheduling.tmo[3].cb = some { requests := [encode (.schedule 2 0)], returns := true } ∧
      (∀ k : Fin 16, k < 3 → rescheduling.tmo[k].active = true)) ∧
    (∀ k : Fin 16, due (timers 100 silent).tmo[k] (timers 100 silent).ticks = true ↔ k = 3) ∧
    (timers 100 silent).tmo[0].active = false ∧
    ((timers 100 stuckText).Quiet ∧ (timers 100 stuckText).ctx = .interrupt ∧
      due (timers 100 stuckText).tmo[3] 100 = true ∧ (∀ k : Fin 16, k < 3 → due (timers 100 stuckText).tmo[k] 100 = false) ∧
      (timers 100 stuckText).cbs.lookup 7 = some { requests := [], returns := false }) :=
  ⟨⟨⟨rfl, rfl, rfl, rfl⟩, rfl, by decide, by decide, by decide⟩, by decide, by decide, ⟨rfl, rfl, rfl, rfl⟩, rfl,
    by decide, by decide, rfl⟩

theorem witness_PendingTimeoutSurvivesScan :
    ∃ t, (timers 99 silent).ctx = .interrupt ∧ exec .advance (timers 99 silent) = .next t ∧
      (timers 99 silent).tmo[3].active = true ∧
      (timers 99 silent).ticks.toNat < (timers 99 silent).tmo[3].target.toNat :=
  ⟨_, rfl, rfl, by decide, by decide⟩

/-- The first slot, and the last one, in main context and in a callback. -/
theorem witness_ScheduleArmsFirstFreeSlot :
    (sM.Quiet ∧ sM.ctx = .main ∧ sM.tmo[0].active = false) ∧
    (({ sC with tmo := fullTable.set 15 ⟨0, 0, false⟩ } : State).Quiet ∧
      ({ sC with tmo := fullTable.set 15 ⟨0, 0, false⟩ } : State).ctx = .callback ∧
      (fullTable.set 15 ⟨0, 0, false⟩)[15].active = false ∧
      ∀ j : Fin 16, j < 15 → (fullTable.set 15 ⟨0, 0, false⟩)[j].active = true) :=
  ⟨⟨quiet_sM, rfl, by decide⟩, ⟨rfl, rfl, rfl, rfl⟩, rfl, by decide, by decide⟩

theorem witness_FullTimeoutTableDropsRequest :
    (({ sM with tmo := fullTable } : State).Quiet ∧ sM.ctx = .main ∧ sM.schedBusy = false) ∧
    (({ sC with tmo := fullTable } : State).Quiet ∧ sC.ctx = .callback) ∧
    ∀ i : Fin 16, fullTable[i].active = true :=
  ⟨⟨⟨rfl, rfl, rfl, rfl⟩, rfl, rfl⟩, ⟨⟨rfl, rfl, rfl, rfl⟩, rfl⟩, by decide⟩

theorem witness_SleepChecksBeforeHalting :
    (sM.Quiet ∧ sM.ctx = .main) ∧ (sI.Quiet ∧ sI.ctx = .interrupt) ∧ (1 : Word64) ≠ 0 :=
  ⟨⟨quiet_sM, rfl⟩, ⟨quiet_sI, rfl⟩, by decide⟩

/-- A state in which main context sleeps and nothing else comes. -/
def asleep (m : MainCtl) (now : Word64) : State := { sM with ticks := now, main := m }

/-- The check at its boundary: 2 of 2 ticks, and 1 of 2. -/
theorem witness_SleepingMainSteps :
    (∀ m now, (asleep m now).Ready ∧ (asleep m now).inputs = []) ∧
    (2 : Word64).toNat ≤ ((12 : Word64) - 10).toNat ∧ ((11 : Word64) - 10).toNat < (2 : Word64).toNat ∧
    (asleep (.sleepCheck 10 2) 12).main = .sleepCheck 10 2 ∧ (asleep (.sleepHalt 10 2) 12).main = .sleepHalt 10 2 ∧
    (asleep (.halted 10 2) 12).main = .halted 10 2 :=
  ⟨fun _ _ => ⟨⟨wellFormed_c0, ⟨rfl, rfl, rfl, rfl⟩, rfl, rfl, rfl⟩, rfl⟩, by decide, by decide, rfl, rfl, rfl⟩

theorem witness_UptimeReturnsTicks : sM.ctx = .main ∧ sI.ctx = .interrupt ∧ sC.ctx = .callback := ⟨rfl, rfl, rfl⟩

theorem witness_FormatSplitsTime : sM.ctx = .main ∧ sI.ctx = .interrupt ∧ sC.ctx = .callback := ⟨rfl, rfl, rfl⟩

theorem witness_OnlyTimerPathCounts :
    ∃ t, (timers 100 silent).Quiet ∧ Instr.advance.op ≠ .tick ∧ Instr.advance.op ≠ .handle ∧
      exec .advance (timers 100 silent) = .next t :=
  ⟨_, ⟨rfl, rfl, rfl, rfl⟩, by decide, by decide, rfl⟩

theorem witness_KbdIntakeDecodesByte :
    (sI.Quiet ∧ sI.ctx = .interrupt ∧ sI.kbc.out = some 0) ∧
    ({ sI with kbc := { sI.kbc with out := none } } : State).Quiet :=
  ⟨⟨quiet_sI, rfl, rfl⟩, ⟨rfl, rfl, rfl, rfl⟩⟩

theorem witness_KbdPrefixAndPauseBytes :
    (sI.Quiet ∧ sI.ctx = .interrupt ∧ sI.dec.pause = false) ∧
    ((withDec { d0 with pause := true }).Quiet ∧ (withDec { d0 with pause := true }).dec.pause = true) :=
  ⟨⟨quiet_sI, rfl, rfl⟩, ⟨rfl, rfl, rfl, rfl⟩, rfl⟩

/-- The frame before the last byte of PrintScreen. -/
def prtscFrame : Decoder := { d0 with shift := true, ext := true, frame := #v[0xE0, 0x2A, 0xE0, 0], frameLen := 3 }

theorem witness_KbdPrintScreenPress :
    (withDec prtscFrame).Quiet ∧ (withDec prtscFrame).ctx = .interrupt ∧ prtscFrame.pause = false ∧
    prtscFrame.frameLen = 3 ∧ prtscFrame.frame[0] = 0xE0 ∧ prtscFrame.frame[1] = 0x2A ∧ prtscFrame.frame[2] = 0xE0 :=
  ⟨⟨rfl, rfl, rfl, rfl⟩, rfl, rfl, rfl, by decide⟩

/-- Each frame length, and both kinds of byte at length 0. -/
theorem witness_KbdFrameAccumulates :
    (∀ n : Fin 4, (withDec { d0 with frameLen := n }).Quiet ∧ (withDec { d0 with frameLen := n }).ctx = .interrupt ∧
      (withDec { d0 with frameLen := n }).dec.pause = false ∧ (withDec { d0 with frameLen := n }).dec.frameLen = n) ∧
    (0x1E : Byte) ≠ 0xE1 ∧ (0x1E : Byte) ≠ 0xE0 ∧ (0xE0 : Byte) ≠ 0xE1 :=
  ⟨fun _ => ⟨⟨rfl, rfl, rfl, rfl⟩, rfl, rfl, rfl⟩, by decide⟩

/-- Every byte that is no prefix reaches step 5 from the reset decoder. -/
theorem reachesKey_reset (b : Byte) (h1 : b ≠ 0xE1) (h0 : b ≠ 0xE0) : reachesKey b sI.dec :=
  ⟨rfl, h1, h0, rfl⟩

theorem witness_KbdAliasPress :
    sI.Quiet ∧ sI.ctx = .interrupt ∧ reachesKey 0x54 sI.dec ∧ reachesKey 0x59 sI.dec :=
  ⟨quiet_sI, rfl, reachesKey_reset _ (by decide) (by decide), reachesKey_reset _ (by decide) (by decide)⟩

theorem witness_KbdModifiersAreSticky :
    sI.Quiet ∧ sI.ctx = .interrupt ∧
    ∀ b ∈ ([0x2A, 0x36, 0xAA, 0xB6, 0x1D, 0x9D, 0x38, 0xB8] : List Byte), reachesKey b sI.dec :=
  ⟨quiet_sI, rfl, fun b hb => reachesKey_reset b (by rintro rfl; revert hb; decide) (by rintro rfl; revert hb; decide)⟩

theorem witness_KbdLocksToggleAndWriteLeds :
    sI.Quiet ∧ sI.ctx = .interrupt ∧ sI.kbc.busy = .reads 0 ∧
    ({ sI with kbc := { sI.kbc with busy := .forever } } : State).Quiet ∧
    ∀ b ∈ ([0x3A, 0x45, 0x46, 0xBA, 0xC5, 0xC6] : List Byte), reachesKey b sI.dec :=
  ⟨quiet_sI, rfl, rfl, ⟨rfl, rfl, rfl, rfl⟩,
    fun b hb => reachesKey_reset b (by rintro rfl; revert hb; decide) (by rintro rfl; revert hb; decide)⟩

/-- The decoder after 0xE0. -/
def afterE0 : Decoder := { d0 with ext := true, frame := #v[0xE0, 0, 0, 0], frameLen := 1 }

/-- Code 0x4D is in the table, code 0x3B is not. -/
theorem witness_KbdExtendedPress :
    (withDec afterE0).Quiet ∧ (withDec afterE0).ctx = .interrupt ∧ reachesKey 0x4D afterE0 ∧ reachesKey 0x3B afterE0 ∧
    afterE0.ext = true ∧ ((0x4D : BitVec 7), (0x0103 : Event)) ∈ extendedRows ∧
    (∀ r ∈ extendedRows, r.1 ≠ 0x3B) ∧ (0x4D : BitVec 7) ∉ stickyCodes ∧ (0x3B : BitVec 7) ∉ stickyCodes :=
  ⟨⟨rfl, rfl, rfl, rfl⟩, rfl, ⟨rfl, by decide, by decide, rfl⟩, ⟨rfl, by decide, by decide, rfl⟩, rfl,
    by simp [extendedRows, stickyCodes]⟩

theorem witness_KbdFunctionAndKeypadPress :
    sI.Quiet ∧ sI.ctx = .interrupt ∧ reachesKey 0x3B sI.dec ∧ reachesKey 0x4C sI.dec ∧ sI.dec.ext = false ∧
    ((0x3B : BitVec 7), (0x010A : Event)) ∈ functionRows ∧
    ((0x4C : BitVec 7), (0x0035 : Event), (0x0000 : Event)) ∈ keypadRows :=
  ⟨quiet_sI, rfl, reachesKey_reset _ (by decide) (by decide), reachesKey_reset _ (by decide) (by decide), rfl,
    by simp [functionRows, keypadRows]⟩

/-- A code with an entry, and one with none. -/
theorem witness_KbdMainTablePress :
    (sI.Quiet ∧ sI.ctx = .interrupt ∧ sI.dec.ext = false) ∧ (reachesKey 0x1E sI.dec ∧ reachesKey 0x7F sI.dec) ∧
    ((0x1E : BitVec 7) ∉ stickyCodes ∧ (∀ r ∈ functionRows, r.1 ≠ 0x1E) ∧ ∀ r ∈ keypadRows, r.1 ≠ 0x1E) ∧
    ((0x7F : BitVec 7) ∉ stickyCodes ∧ (∀ r ∈ functionRows, r.1 ≠ 0x7F) ∧ ∀ r ∈ keypadRows, r.1 ≠ 0x7F) ∧
    ((0x1E : BitVec 7), (0x0061 : Event), (0x0041 : Event)) ∈ mainRows ∧ ∀ r ∈ mainRows, r.1 ≠ 0x7F := by
  refine ⟨⟨quiet_sI, rfl, rfl⟩,
    ⟨reachesKey_reset _ (by decide) (by decide), reachesKey_reset _ (by decide) (by decide)⟩,
    by simp [functionRows, keypadRows, stickyCodes], by simp [functionRows, keypadRows, stickyCodes], ?_,
    by simp [mainRows]⟩
  unfold mainRows
  iterate 28 apply List.mem_cons_of_mem
  exact List.mem_cons_self

theorem witness_KbdReleaseEmitsNothing :
    sI.Quiet ∧ sI.ctx = .interrupt ∧ sI.dec.pause = false ∧ 0x80 ≤ (0x80 : Byte).toNat ∧ 0x80 ≤ (0xFF : Byte).toNat ∧
    reachesKey 0x80 sI.dec ∧ ((0x80 : Byte).setWidth 7) ∉ stickyCodes ∧
    (reachesKey 0xCD afterE0 ∧ ((0xCD : Byte).setWidth 7) ∉ stickyCodes ∧ (withDec afterE0).Quiet) :=
  ⟨quiet_sI, rfl, rfl, by decide, by decide, reachesKey_reset _ (by decide) (by decide), by simp [stickyCodes],
    ⟨rfl, by decide, by decide, rfl⟩, by simp [stickyCodes], rfl, rfl, rfl, rfl⟩

theorem witness_KbdNeverEmitsNone : sI.Quiet ∧ sI.ctx = .interrupt := ⟨quiet_sI, rfl⟩

theorem witness_CtrlAndAltChangeNoEvent : sI.Quiet ∧ sI.ctx = .interrupt := ⟨quiet_sI, rfl⟩

theorem witness_DecoderStateNames :
    decoderView { d0 with pause := true } = .pauseSequence ∧ decoderView prtscFrame = .printScreenFrame ∧
    decoderView { d0 with ext := true } = .extendedPrefix ∧ decoderView d0 = .idle := by decide

/-- Both controllers; and each kind of hang, with a request waiting and with a batch. -/
theorem witness_LedWriteTrace :
    (sI.Quiet ∧ sI.ctx = .interrupt ∧ sI.kbc.busy = .reads 0) ∧
    ({ sI with kbc := { sI.kbc with busy := .forever } } : State).Quiet ∧
    (∀ h ∈ [Hang.ledWait, .callback 7, .sleep],
      ({ sIn (.request .main 0x0A []) with hang := some h } : State).cfg.wellFormed = true ∧
      ({ sIn (.request .main 0x0A []) with hang := some h } : State).faults = []) ∧
    (∀ batch during rest, (sIn (.request .main 0x0A [])).inputs ≠ .stim batch during :: rest) ∧
    (hungIn [.sti]).cfg.wellFormed = true ∧ (hungIn [.sti]).faults = [] ∧ (hungIn [.sti]).kbc.busy = .forever :=
  ⟨⟨quiet_sI, rfl, rfl⟩, ⟨rfl, rfl, rfl, rfl⟩, fun _ _ => ⟨wellFormed_c0, rfl⟩, by simp [sIn],
    wellFormed_c0, rfl, rfl⟩

/-- An empty ring, and one with an event. -/
theorem witness_RingPushAndPop :
    (sI.Quiet ∧ sI.ctx = .interrupt) ∧ (sM.Quiet ∧ sM.ctx = .main ∧ sM.rb.head = sM.rb.tail) ∧
    (({ sM with rb := { sM.rb with head := 1 } } : State).Quiet ∧
      ({ sM with rb := { sM.rb with head := 1 } } : State).rb.head ≠ ({ sM with rb := { sM.rb with head := 1 } } : State).rb.tail) :=
  ⟨⟨quiet_sI, rfl⟩, ⟨quiet_sM, rfl, rfl⟩, ⟨rfl, rfl, rfl, rfl⟩, by decide⟩

theorem witness_RingRefinesBoundedQueue :
    (sI.Quiet ∧ sI.ctx = .interrupt) ∧ (sM.Quiet ∧ sM.ctx = .main ∧ ringEvents sM.rb = []) ∧
    ringEvents { sM.rb with head := 1 } = [0] :=
  ⟨⟨quiet_sI, rfl⟩, ⟨quiet_sM, rfl, by decide⟩, by decide⟩

/-- VB11's run: the ring holds one event, and another is pushed meanwhile. -/
def poppingVB11 : State :=
  { wired 33 33 with
    rb := { buf := sM.rb.buf.set 0 0x61, head := 1, tail := 0 }
    script := [[], [.kbd 0x30, .deliver 33]] }

/-- And a pop of an empty ring. -/
theorem witness_PreemptedPopIsWhole :
    (∃ t, poppingVB11.live = true ∧ poppingVB11.ctx = .main ∧ exec .rbPop poppingVB11 = .next t ∧ t.live = true ∧
      ringEvents (envM poppingVB11).rb = [0x61]) ∧
    ∃ t, sM.live = true ∧ sM.ctx = .main ∧ exec .rbPop sM = .next t ∧ t.live = true ∧ ringEvents (envM sM).rb = [] :=
  ⟨⟨_, rfl, rfl, rfl, by decide, by decide⟩, ⟨_, rfl, rfl, rfl, rfl, by decide⟩⟩

/-- `wired` with a delivery as its next input. -/
def delivering (v : Byte) (s : State) : State := { s with inputs := [.stim [.deliver v] []] }

/-- A gate wired to a stub passes the checks. -/
theorem wiredTo_13 : wiredTo (wired 13 13) 13 13 := by
  refine ⟨rfl, rfl, by decide, by decide, by decide, by decide, by decide⟩

theorem wiredTo_33 : wiredTo (wired 33 33) 33 33 := by
  refine ⟨rfl, rfl, by decide, by decide, by decide, by decide, by decide⟩

theorem wiredTo_32 : wiredTo (wired 32 32) 32 32 := by
  refine ⟨rfl, rfl, by decide, by decide, by decide, by decide, by decide⟩

/-- Each check's failing state: nested; no table (VE1); inside SET_GATE; beyond the limit (VE10); a zero slot (VE9); an
unknown handler (VI11); the timer's while SCHEDULE is under way. -/
theorem witness_DeliveryChecksInOrder :
    ((delivering 33 { wired 33 33 with inIrq := true }).Ready ∧ (wired 33 33).cpu.ifl = true) ∧
    (delivering 2 sM).Ready ∧
    (delivering 33 { wired 33 33 with gateBusy := some 33 }).Ready ∧
    ({ wired 32 32 with cpu := { (wired 32 32).cpu with idtr := { limit := 0x01FF, base := 0x105000 } } } : State).cpu.idtr.limit.toNat
      < 16 * (32 : Byte).toNat + 15 ∧
    (readGate (wired 33 33).mem (0x105000 + 16 * (48 : Byte).setWidth 64)).typeAttr ≠ 0x8E ∧
    (16 * (255 : Byte).toNat + 15 ≤ (wired 33 33).cpu.idtr.limit.toNat) ∧
    ((readGate (writeGate [] 0x105210 0x123456 0x8E) 0x105210).typeAttr = 0x8E ∧
      (readGate (writeGate [] 0x105210 0x123456 0x8E) 0x105210).selector = 0x0008 ∧
      ∀ w : Fin 48, Config.c0.stub[w] ≠ gateHandler (readGate (writeGate [] 0x105210 0x123456 0x8E) 0x105210)) ∧
    wiredTo { wired 32 32 with schedBusy := true } 32 32 :=
  ⟨⟨⟨wellFormed_c0, ⟨rfl, rfl, rfl, rfl⟩, rfl, rfl, rfl⟩, rfl⟩, ⟨wellFormed_c0, ⟨rfl, rfl, rfl, rfl⟩, rfl, rfl, rfl⟩, ⟨wellFormed_c0, ⟨rfl, rfl, rfl, rfl⟩, rfl, rfl, rfl⟩, by decide,
    by decide, by decide, by decide, wiredTo_32⟩

/-- `s` under an EXC_RESUME that says `r` for vector 13, wherever main context stands. -/
def resuming (r : Resume) (s : State) : State :=
  { s with cfg := { Config.c0 with excResume := [{ vector := 13, point := none, resume := r }] } }

/-- R347: an instruction that is executed again raises its exception, and EXC_RESUME is asked again. -/
theorem test_raising_asks_again :
    nextIs (step { resuming .past (wired 13 13) with main := retrying 13 ⟨.idle, none, 0, []⟩ }) (fun t =>
      t.main == .idle && t.history == [.report .exception 13]) = true ∧
    nextIs (step { resuming .retry (wired 13 13) with main := retrying 13 ⟨.idle, none, 0, []⟩ }) (fun t =>
      t.main == retrying 13 ⟨.idle, none, 0, []⟩ && t.redirect == none) = true := by decide

/-- SET_GATE(0x21), with the exception 13 between its steps 1 and 2. -/
def interruptedSetGate : Input := .request .main (encode (.setGate 0x21 1 0x8E)) [[.deliver 13]]

theorem wiredTo_13_any (s : State) (h1 : s.mem = (wired 13 13).mem) (h2 : s.cpu = (wired 13 13).cpu)
    (h3 : s.cfg.stub = Config.c0.stub) (h4 : s.inIrq = false) (h5 : s.gateBusy ≠ some 13) : wiredTo s 13 13 := by
  have e : stubIndex s.cfg = stubIndex Config.c0 := by funext h; simp [stubIndex, h3]
  have w := wiredTo_13
  unfold wiredTo at w ⊢
  rw [h1, h2, h4, e]
  exact ⟨rfl, w.2.1, h5, w.2.2.2⟩

/-- Past, again, and elsewhere, between operations and inside one; and the instruction that is raised again. -/
theorem witness_ExceptionDeliveryReports :
    (13 : Byte).toNat ≤ 31 ∧ (0x21 : Byte) ≠ 13 ∧
    (∀ r p, resumeAt (resuming r (wired 13 13)).cfg 13 p = r) ∧
    (∀ r, (delivering 13 (resuming r (wired 13 13))).Ready ∧ wiredTo (delivering 13 (resuming r (wired 13 13))) 13 13) ∧
    (∀ r, ({ resuming r (wired 13 13) with inputs := [interruptedSetGate] } : State).Ready ∧
      wiredTo { resuming r (wired 13 13) with inputs := [interruptedSetGate] } 13 13) ∧
    ∀ r p, ({ resuming r (wired 13 13) with main := retrying 13 p } : State).Ready ∧
      wiredTo { resuming r (wired 13 13) with main := retrying 13 p } 13 13 :=
  ⟨by decide, by decide, fun r p => rfl,
    fun r => ⟨⟨wellFormed_c0, ⟨rfl, rfl, rfl, rfl⟩, rfl, rfl, rfl⟩, wiredTo_13_any _ rfl rfl rfl rfl (fun h => nomatch h)⟩,
    fun r => ⟨⟨wellFormed_c0, ⟨rfl, rfl, rfl, rfl⟩, rfl, rfl, rfl⟩, wiredTo_13_any _ rfl rfl rfl rfl (fun h => nomatch h)⟩,
    fun r p => ⟨⟨wellFormed_c0, ⟨rfl, rfl, rfl, rfl⟩, rfl, rfl, rfl⟩, wiredTo_13_any _ rfl rfl rfl rfl (fun h => nomatch h)⟩⟩

/-- A hardware vector; and an exception, wherever main context stands, halted included. -/
theorem witness_DeliveryEntersHandlesReturns :
    (∃ u, (delivering 33 (wired 33 33)).Ready ∧ 32 ≤ (33 : Byte).toNat ∧ (wired 33 33).cpu.ifl = true ∧
      wiredTo (delivering 33 (wired 33 33)) 33 33 ∧ (wired 33 33).schedBusy = false ∧
      handleOp 33 { delivering 33 (wired 33 33) with
        inputs := [], cpu := { (wired 33 33).cpu with savedIf := true, ifl := false }, ctx := .interrupt } = u ∧
      u.live = true) ∧
    ∀ m : MainCtl, ∃ u, (delivering 13 { wired 13 13 with main := m }).Ready ∧ (13 : Byte).toNat ≤ 31 ∧
      resumeAt (wired 13 13).cfg 13 (restPoint { wired 13 13 with main := m } []) = .past ∧
      wiredTo (delivering 13 { wired 13 13 with main := m }) 13 13 ∧
      handleOp 13 { delivering 13 { wired 13 13 with main := m } with
        inputs := [], cpu := { (wired 13 13).cpu with savedIf := true, ifl := false }, ctx := .interrupt } = u ∧
      u.live = true :=
  ⟨⟨_, ⟨wellFormed_c0, ⟨rfl, rfl, rfl, rfl⟩, rfl, rfl, rfl⟩, by decide, rfl, wiredTo_33, rfl, rfl, by decide⟩,
    fun _ => ⟨_, ⟨wellFormed_c0, ⟨rfl, rfl, rfl, rfl⟩, rfl, rfl, rfl⟩, by decide, rfl,
      wiredTo_13_any _ rfl rfl rfl rfl (fun h => nomatch h), rfl, rfl⟩⟩

theorem witness_MaskedInterruptsWait :
    (sIn (.stim [.deliver 32] [])).Ready ∧ sM.cpu.ifl = false ∧ 32 ≤ (32 : Byte).toNat ∧ (sIn (.stim [.take] [])).Ready :=
  ⟨ready_sIn _, rfl, by decide, ready_sIn _⟩

/-- Lines 7 and 8 are the last of the primary and the first of the secondary; main context may be halted; a batch of two
lands in a hung state, and an NMI after it. -/
theorem witness_StimuliSetFlagAndRequestBits :
    (∀ x, (sIn (.stim [x] [])).Ready) ∧ ({ sIn (.stim [.sti] []) with main := .halted 0 1 } : State).Ready ∧
    (7 : Fin 16).val < 8 ∧ 8 ≤ (8 : Fin 16).val ∧ sM.kbc.busy ≠ .forever ∧
    ({ sI with script := [[.sti]] } : State).live = true ∧
    (∀ x ∈ [Stimulus.irq 0, .irq 1], deliversNothing x = true) ∧ (sIn (.stim [.irq 0, .irq 1] [])).Ready ∧
    (hungIn [.irq 0, .irq 1]).cfg.wellFormed = true ∧ (hungIn [.irq 0, .irq 1]).faults = [] ∧
    (hungIn [.irq 0, .irq 1]).hang = some .ledWait ∧ (2 : Byte).toNat ≤ 31 ∧
    (hungIn [.irq 0, .irq 1, .deliver 2]).inputs = [.stim ([.irq 0, .irq 1] ++ [.deliver 2]) []] :=
  ⟨fun _ => ready_sIn _, ⟨wellFormed_c0, ⟨rfl, rfl, rfl, rfl⟩, rfl, rfl, rfl⟩, by decide, by decide, by decide, rfl,
    by decide, ready_sIn _, wellFormed_c0, rfl, rfl, by decide, rfl⟩

/-- Line 0 of the primary; line 12, through input 2 (VE6); primary bit 2 alone, which is not ready; an NMI after a taking and
after the first maskable vector, and an exception after the NMI. -/
theorem witness_TakeDeliversHighestPriority :
    (lineReady { sM.pic1 with imr := 0xFC, irr := 0x01 } 0 ∧
      32 ≤ (((0x20 : Byte) &&& 0xF8) ||| BitVec.ofNat 8 0).toNat ∧
      ({ wired 32 32 with inputs := [.stim [.take] []] } : State).Ready ∧ (wired 32 32).cpu.ifl = true) ∧
    (lineReady { sM.pic2 with imr := 0xEF, irr := 0x10 } 4 ∧
      (∀ k : Fin 8, k < 4 → ¬ lineReady { sM.pic2 with imr := 0xEF, irr := 0x10 } k) ∧
      (0xF8 : Byte).getLsbD 2 = false ∧ (∀ k : Fin 8, k ≤ 2 → sM.pic1.isr.getLsbD k = false) ∧
      ¬ lineReady { sM.pic1 with imr := 0xF8 } 0 ∧ ¬ lineReady { sM.pic1 with imr := 0xF8 } 1) ∧
    ((∀ k : Fin 8, k ≠ 2 → ¬ lineReady { sM.pic1 with imr := 0, irr := 0x04 } k) ∧ ∀ m : Fin 8, ¬ lineReady sM.pic2 m) ∧
    (({ timerAndNmi with inputs := [.stim [.take, .deliver 2] []] } : State).Ready ∧
      wiredTo { timerAndNmi with inputs := [.stim [.take, .deliver 2] []] } 2 2 ∧
      resumeAt timerAndNmi.cfg 2 (restPoint timerAndNmi []) = .past ∧ (2 : Byte).toNat ≤ 31 ∧
      takenAfter 2 .take = true ∧ takenAfter 2 (.deliver 32) = true ∧ takenAfter 13 (.deliver 2) = true ∧
      takenAfter 2 (.deliver 13) = false ∧ timerAndNmi.hang = none) := by
  refine ⟨⟨by unfold lineReady; decide, by decide, ⟨wellFormed_c0, ⟨rfl, rfl, rfl, rfl⟩, rfl, rfl, rfl⟩, rfl⟩, ?_, ?_, ?_⟩
  · unfold lineReady; decide
  · unfold lineReady; decide
  · exact ⟨⟨wellFormed_c0, ⟨rfl, rfl, rfl, rfl⟩, rfl, rfl, rfl⟩,
      ⟨rfl, rfl, by decide, by decide, by decide, by decide, by decide⟩, rfl, by decide⟩

/-- At the first boundary, and at a later one that is reached. -/
theorem witness_DeliveryInsideOperationFaults :
    (({ wired 32 32 with script := [[.deliver 32]] } : State).live = true ∧ (wired 32 32).cpu.ifl = true ∧
      wiredTo { wired 32 32 with script := [[.deliver 32]] } 32 32) ∧
    (({ sE with script := [[.deliver 2]] } : State).live = true ∧ sE.ctx = .environment ∧ (2 : Byte).toNat ≤ 31) ∧
    nextIs (exec (.schedule 1 10) { wired 32 32 with script := List.replicate 2 [] ++ [[.deliver 32]] })
      (fun t => t.script == []) = true ∧
    nextIs (exec (.setGate 32 1 0x8E) { wired 32 32 with script := List.replicate 1 [] ++ [[.deliver 32]] })
      (fun t => t.script == []) = true ∧
    nextIs (exec (.handle 33) { sE with script := List.replicate 5 [] ++ [[.deliver 2]] }) (fun t => t.script == []) = true :=
  ⟨⟨rfl, rfl, wiredTo_32⟩, ⟨rfl, rfl, by decide⟩, by decide, by decide, by decide⟩

theorem witness_ResetHasInvariant : Draw.zero.mem.wf = true := rfl

theorem witness_StepKeepsInvariant : ∃ t, sM.Inv ∧ step (sIn (.request .main 0x0A [])) = .next t ∧ (sIn (.request .main 0x0A [])).Inv :=
  ⟨_, ⟨rfl, by decide, rfl, fun _ => ⟨rfl, rfl, rfl, rfl, rfl⟩, fun _ _ => ⟨rfl, rfl, rfl, rfl⟩⟩, rfl,
    ⟨rfl, by decide, rfl, fun _ => ⟨rfl, rfl, rfl, rfl, rfl⟩, fun _ _ => ⟨rfl, rfl, rfl, rfl⟩⟩⟩

theorem witness_WritesStayInTableAndPointer :
    ∃ t, sM.mem.wf = true ∧ exec (.setGate 0x21 1 0x8E) sM = .next t ∧ ¬ blockAddress sM.cfg 0 := by
  refine ⟨_, rfl, rfl, ?_⟩
  rintro (⟨k, hk, e⟩ | ⟨k, hk, e⟩)
  · have e' : 0 = (0x105000 + k) % 2 ^ 64 := by
      have : 0 = byteAt 0x105000 k := e
      simpa [byteAt] using this
    omega
  · have e' : 0 = (0x104FF0 + k) % 2 ^ 64 := by
      have : 0 = byteAt 0x104FF0 k := e
      simpa [byteAt] using this
    omega

theorem witness_RefusedMarkStays :
    ∃ t, step { sIn (.request .main 0x0A []) with refused := true } = .next t ∧
      ({ sIn (.request .main 0x0A []) with refused := true } : State).refused = true :=
  ⟨_, rfl, rfl⟩

end Sys2Proof.Tests
end

section
/-! PROOFS. How `step` answers, one equation for each of its three branches, and the obligation about a recorded fault. -/

namespace Sys2Proof.Machine

open Sys2Proof

/-- R80, R343: an overlap is refused whatever else the state holds, a recorded fault included. -/
theorem step_of_not_wellFormed {s : State} (hwf : s.cfg.wellFormed = false) :
    step s = .refused .configOverlap := by
  simp [step, hwf]

/-- R14, R342: the newest recorded fault is the answer, before the inputs or a hang are looked at. -/
theorem step_of_faults_cons {s : State} {f : Fault} {fs : List Fault}
    (hwf : s.cfg.wellFormed = true) (hfaults : s.faults = f :: fs) : step s = .fault f := by
  simp [step, hwf, hfaults]

theorem step_of_faults_nil {s : State} (hwf : s.cfg.wellFormed = true) (hfaults : s.faults = []) :
    step s = runStep s := by
  simp [step, hwf, hfaults]

/-- Settles O8: it is the faulted branch of `step`. -/
theorem faultStopsRun : Obligations.FaultStopsRun := by
  unfold Obligations.FaultStopsRun
  intro s f fs hwf hfaults
  exact step_of_faults_cons hwf hfaults

end Sys2Proof.Machine
end

section
/-! PROOFS. R45: the named decoder states, one equation for each, and the obligation that they are named in precedence. -/

namespace Sys2Proof.Machine

open Sys2Proof

theorem decoderView_of_pause {d : Decoder} (hpause : d.pause = true) : decoderView d = .pauseSequence := by
  simp [decoderView, hpause]

theorem decoderView_of_frame {d : Decoder} (hpause : d.pause = false) (hframe : d.frameLen ≠ 0) :
    decoderView d = .printScreenFrame := by
  simp [decoderView, hpause, hframe]

theorem decoderView_of_ext {d : Decoder} (hpause : d.pause = false) (hframe : d.frameLen = 0) (hext : d.ext = true) :
    decoderView d = .extendedPrefix := by
  simp [decoderView, hpause, hframe, hext]

/-- R45's meaning of `Idle`: whichever of the three is set gives the state another name. -/
theorem decoderView_eq_idle_iff (d : Decoder) :
    decoderView d = .idle ↔ d.pause = false ∧ d.frameLen = 0 ∧ d.ext = false := by
  cases hpause : d.pause with
  | true => simp [decoderView_of_pause hpause]
  | false =>
    by_cases hframe : d.frameLen = 0
    · cases hext : d.ext <;> simp [decoderView, hpause, hframe, hext]
    · simp [decoderView_of_frame hpause hframe, hframe]

/-- Settles O43: the three named branches of `decoderView`, and its last one. -/
theorem decoderStateNames : Obligations.DecoderStateNames := by
  unfold Obligations.DecoderStateNames
  exact fun d => ⟨decoderView_of_pause, decoderView_of_frame, decoderView_of_ext, decoderView_eq_idle_iff d⟩

end Sys2Proof.Machine
end

section
/-! PROOFS. Stimuli that ask for no delivery (R49, R136, R349 step 1): a batch of them is `landed` wherever it lands, and
`landed` writes the CPU's flag, the devices and the callbacks' text only. -/

namespace Sys2Proof.Machine

open Sys2Proof

/-! ### What `landed` writes -/

theorem landedOne_frame (s : State) (x : Stimulus) :
    ∃ cpu pic1 pic2 kbc cbs,
      landedOne s x = { s with cpu := cpu, pic1 := pic1, pic2 := pic2, kbc := kbc, cbs := cbs } := by
  cases x with
  | irq l => unfold landedOne; dsimp only; split <;> exact ⟨_, _, _, _, _, rfl⟩
  | kbcBusy n => unfold landedOne; dsimp only; split <;> exact ⟨_, _, _, _, _, rfl⟩
  | _ => exact ⟨_, _, _, _, _, rfl⟩

theorem landed_frame (xs : List Stimulus) (s : State) :
    ∃ cpu pic1 pic2 kbc cbs,
      landed xs s = { s with cpu := cpu, pic1 := pic1, pic2 := pic2, kbc := kbc, cbs := cbs } := by
  induction xs generalizing s with
  | nil => exact ⟨_, _, _, _, _, rfl⟩
  | cons x xs ih =>
    obtain ⟨_, _, _, _, _, hx⟩ := landedOne_frame s x
    obtain ⟨cpu, pic1, pic2, kbc, cbs, hxs⟩ := ih (landedOne s x)
    refine ⟨cpu, pic1, pic2, kbc, cbs, ?_⟩
    rw [show landed (x :: xs) s = landed xs (landedOne s x) from rfl, hxs, hx]

@[simp] theorem landedOne_live (s : State) (x : Stimulus) : (landedOne s x).live = s.live := by
  obtain ⟨_, _, _, _, _, h⟩ := landedOne_frame s x
  rw [h]; rfl

@[simp] theorem landedOne_faults (s : State) (x : Stimulus) : (landedOne s x).faults = s.faults := by
  obtain ⟨_, _, _, _, _, h⟩ := landedOne_frame s x
  rw [h]

@[simp] theorem landed_live (xs : List Stimulus) (s : State) : (landed xs s).live = s.live := by
  obtain ⟨_, _, _, _, _, h⟩ := landed_frame xs s
  rw [h]; rfl

@[simp] theorem landed_faults (xs : List Stimulus) (s : State) : (landed xs s).faults = s.faults := by
  obtain ⟨_, _, _, _, _, h⟩ := landed_frame xs s
  rw [h]

@[simp] theorem landed_script (xs : List Stimulus) (s : State) : (landed xs s).script = s.script := by
  obtain ⟨_, _, _, _, _, h⟩ := landed_frame xs s
  rw [h]

@[simp] theorem landed_inputs (xs : List Stimulus) (s : State) : (landed xs s).inputs = s.inputs := by
  obtain ⟨_, _, _, _, _, h⟩ := landed_frame xs s
  rw [h]

/-- Main context at rest, with `inputs` to come: the fields the end of a step sets (log 9). -/
def State.atRestWith (s : State) (inIrq : Bool) (inputs : List Input) : State :=
  { s with ctx := .main, inIrq := inIrq, script := [], running := none, passed := 0, inputs := inputs }

/-- A stimulus reads none of the fields the end of a step sets, and writes none. -/
theorem landedOne_atRestWith (s : State) (b : Bool) (inputs : List Input) (x : Stimulus) :
    landedOne (s.atRestWith b inputs) x = (landedOne s x).atRestWith b inputs := by
  cases x with
  | irq l => unfold landedOne; dsimp only; split <;> rfl
  | kbcBusy n => unfold landedOne State.atRestWith; dsimp only; split <;> rfl
  | _ => rfl

theorem landed_atRestWith (xs : List Stimulus) (s : State) (b : Bool) (inputs : List Input) :
    landed xs (s.atRestWith b inputs) = (landed xs s).atRestWith b inputs :=
  List.foldl_hom (State.atRestWith · b inputs) fun s x => landedOne_atRestWith s b inputs x

/-! ### Batches -/

/-- No stimulus that asks for no delivery waits for another at a boundary (R358). -/
theorem orderBatch_deliversNothing (xs : List Stimulus) (h : ∀ x ∈ xs, deliversNothing x = true) :
    orderBatch xs = xs := by
  have keep (first later : Stimulus → Bool) (hl : ∀ x, deliversNothing x = true → later x = false) :
      hoist first later xs = xs := by
    simpa using hoist_append first later xs [] fun x hx => hl x (h x hx)
  have maskable (x : Stimulus) (hx : deliversNothing x = true) : isMaskable x = false := by
    cases x with
    | take => exact nomatch hx
    | deliver v => exact nomatch hx
    | _ => rfl
  have nmi (x : Stimulus) (hx : deliversNothing x = true) : isNmi x = false := by
    cases x with
    | deliver v => exact nomatch hx
    | _ => rfl
  unfold orderBatch
  rw [keep _ _ fun x hx => by simp [maskable x hx, nmi x hx], keep _ _ maskable]

/-- A batch lands such stimuli one after the other, and goes on with what stands after them. -/
theorem stimuliWith_landed_append (goesOn : State → Bool) (deliver : Byte → State → State)
    (hgo : ∀ s x, goesOn s = true → goesOn (landedOne s x) = true) (xs ys : List Stimulus) (s : State)
    (hxs : ∀ x ∈ xs, deliversNothing x = true) (hs : goesOn s = true) :
    stimuliWith goesOn deliver (xs ++ ys) s = stimuliWith goesOn deliver ys (landed xs s) := by
  induction xs generalizing s with
  | nil => rfl
  | cons x xs ih =>
    have hx := stimulusWith_deliversNothing deliver x s (hxs x (by simp))
    rw [List.cons_append, stimuliWith]
    simp only [hx, hgo s x hs, if_true]
    exact ih (landedOne s x) (fun y hy => hxs y (by simp [hy])) (hgo s x hs)

theorem stimuliLive_landed (xs : List Stimulus) (s : State) (hxs : ∀ x ∈ xs, deliversNothing x = true)
    (hs : s.live = true) : stimuliWith State.live deliverOp xs s = landed xs s := by
  simpa using stimuliWith_landed_append State.live deliverOp (fun s x h => by simpa using h) xs [] s hxs hs

theorem stimuliNested_landed_append (xs ys : List Stimulus) (s : State) (hxs : ∀ x ∈ xs, deliversNothing x = true)
    (hs : s.faults = []) : stimuliNested (xs ++ ys) s = stimuliNested ys (landed xs s) :=
  stimuliWith_landed_append (fun t => t.faults.isEmpty) deliverNested (fun s x h => by simpa using h) xs ys s hxs
    (by simp [hs])

theorem stimuliNested_landed (xs : List Stimulus) (s : State) (hxs : ∀ x ∈ xs, deliversNothing x = true)
    (hs : s.faults = []) : stimuliNested xs s = landed xs s := by
  simpa using stimuliNested_landed_append xs [] s hxs hs

/-- R355: an exception or NMI delivered inside interrupt context is a reentry, whatever the interrupt flag is. -/
theorem stimulusNested_exception (v : Byte) (s : State) (hv : v.toNat ≤ 31) :
    stimulusWith deliverNested (.deliver v) s = s.raise .reentry := by
  simp [stimulusWith, deliverNested, hv]

/-! ### Steps that take a batch -/

theorem runStep_stim {s : State} {xs : List Stimulus} {during : List (List Stimulus)} {rest : List Input}
    (hhang : s.hang = none) (hin : s.inputs = .stim xs during :: rest) :
    runStep s = .next (runBatch xs during { s with inputs := rest }) := by
  unfold runStep
  split
  · simp_all
  · simp only [hin]

/-- A batch of such stimuli at a boundary of main context is `landed`, and main context is at rest with what was to land
inside the batch to come (log 9). -/
theorem runBatch_landed {xs : List Stimulus} (during : List (List Stimulus)) {s : State}
    (hxs : ∀ x ∈ xs, deliversNothing x = true) (hs : s.live = true) :
    runBatch xs during s = landed xs (s.atRestWith s.inIrq (asInputs during ++ s.inputs)) := by
  have hlive : ({ s with script := during } : State).live = true := hs
  calc runBatch xs during s
      = s.finish (landed xs { s with script := during }) := by
        rw [runBatch, orderBatch_deliversNothing xs hxs, stimuliLive_landed xs _ hxs hlive]
    _ = (landed xs { s with script := during }).atRestWith s.inIrq (asInputs during ++ s.inputs) := by
        rw [State.finish_live _ _ ((landed_live xs _).trans hlive), landed_script, landed_inputs]
        rfl
    _ = landed xs (s.atRestWith s.inIrq (asInputs during ++ s.inputs)) := (landed_atRestWith xs _ _ _).symm

theorem step_landed {s : State} {xs : List Stimulus} {during : List (List Stimulus)} {rest : List Input}
    (hxs : ∀ x ∈ xs, deliversNothing x = true) (hs : s.Ready) (hin : s.inputs = .stim xs during :: rest) :
    step s = .next (landed xs { s with inputs := asInputs during ++ rest }) := by
  obtain ⟨hwf, hquiet, hctx, hrunning, hpassed⟩ := hs
  have hlive : ({ s with inputs := rest } : State).live = true := hquiet.live_eq
  obtain ⟨hfaults, hhang, -, hscript⟩ := hquiet
  have hrest : State.atRestWith { s with inputs := rest } s.inIrq (asInputs during ++ rest) =
      { s with inputs := asInputs during ++ rest } := by
    simp [State.atRestWith, hctx, hrunning, hpassed, hscript]
  rw [step_of_faults_nil hwf hfaults, runStep_stim hhang hin, runBatch_landed during hxs hlive, hrest]

theorem envI_landed {s : State} {xs : List Stimulus} {during : List (List Stimulus)}
    (hxs : ∀ x ∈ xs, deliversNothing x = true) (hs : s.live = true) (hscript : s.script = xs :: during) :
    envI s = landed xs { s with script := during } := by
  obtain ⟨hfaults, -⟩ := (s.live_iff).1 hs
  simp only [envI, hscript]
  exact stimuliNested_landed xs { s with script := during } hxs hfaults

/-- An interrupt context that has hung takes a batch whole, as any of its boundaries does (log 17). -/
theorem step_hung {s : State} {h : Hang} {xs : List Stimulus} {during : List (List Stimulus)} {rest : List Input}
    (hwf : s.cfg.wellFormed = true) (hfaults : s.faults = []) (hhang : s.hang = some h)
    (hin : s.inputs = .stim xs during :: rest) :
    step s = .next (stimuliNested xs { s with inputs := asInputs during ++ rest }) := by
  simp [step_of_faults_nil hwf hfaults, runStep, hhang, hangStep, hin]

/-- Settles O53: each clause is a batch that is `landed`, at a boundary of main context, at one inside interrupt context, or
in a hang; the named stimuli are batches of one. -/
theorem stimuliSetFlagAndRequestBits : Obligations.StimuliSetFlagAndRequestBits := by
  unfold Obligations.StimuliSetFlagAndRequestBits
  refine ⟨fun s xs during rest hxs => ⟨step_landed hxs, envI_landed hxs, fun h hwf hfaults hhang => ⟨?_, ?_⟩⟩, ?_⟩
  · intro hin
    rw [step_hung hwf hfaults hhang hin, stimuliNested_landed xs { s with inputs := asInputs during ++ rest } hxs hfaults]
  · intro v hv hin
    rw [step_hung hwf hfaults hhang hin, stimuliNested_landed_append xs _ { s with inputs := asInputs during ++ rest } hxs hfaults,
      stimuliNested_singleton,
      stimulusNested_exception v _ hv]
    simp [State.raise, hfaults]
  · intro s x during rest
    have one (hx : deliversNothing x = true) : ∀ y ∈ [x], deliversNothing y = true := by simpa using hx
    constructor
    · intro hs hin
      have hstep (hx : deliversNothing x = true) :
          step s = .next (landedOne { s with inputs := asInputs during ++ rest } x) := step_landed (one hx) hs hin
      refine ⟨?_, ?_, ?_, ?_, ?_, ?_, ?_⟩
      · rintro rfl; exact hstep rfl
      · rintro rfl; exact hstep rfl
      · rintro l hl rfl; rw [hstep rfl]; simp [landedOne, hl]
      · rintro l hl rfl; rw [hstep rfl]; simp [landedOne, Nat.not_lt.2 hl]
      · rintro b rfl; exact hstep rfl
      · rintro m1 m2 rfl; exact hstep rfl
      · rintro n rfl hbusy; rw [hstep rfl]; simp [landedOne, hbusy]
    · intro hs hscript
      refine ⟨?_, ?_⟩
      · rintro rfl; exact envI_landed (one rfl) hs hscript
      · rintro rfl; exact envI_landed (one rfl) hs hscript

end Sys2Proof.Machine
end

section
/-! PROOFS. How an operation may end (R14), and the bookkeeping that interrupt context leaves alone (R32): the relations in
which every operation of the model stands to the state it starts from, and how they compose along `andThen`. -/

namespace Sys2Proof.Machine

open Sys2Proof

/-! ### The bookkeeping of main context's operations -/

/-- Where a controller's initialization sequence stands (R356). -/
structure PicInit where
  step : Fin 5
  needIcw4 : Bool

def Pic.initPart (p : Pic) : PicInit := { step := p.initStep, needIcw4 := p.needIcw4 }

/-- A byte at the controller's command port (R356): ICW1 starts the sequence, any other command leaves it alone. -/
def PicInit.command (i : PicInit) (x : Byte) : PicInit :=
  if x.getLsbD 4 then { step := 1, needIcw4 := x.getLsbD 0 } else i

/-- A byte at the controller's data port (R356): the next word of the sequence, or a mask outside it. -/
def PicInit.data (i : PicInit) : PicInit :=
  if i.step = 1 then { i with step := 2 }
  else if i.step = 2 then { i with step := if i.needIcw4 then 3 else 0 }
  else if i.step = 3 then { i with step := 0 }
  else i

theorem picCommand_initPart (p : Pic) (x : Byte) : (picCommand p x).initPart = p.initPart.command x := by
  unfold picCommand PicInit.command
  split
  · rfl
  · split <;> rfl

theorem picData_initPart (p : Pic) (x : Byte) : (picData p x).initPart = p.initPart.data := by
  rcases p with ⟨_, _, _, _, initStep, _, _, _⟩
  by_cases h1 : initStep = 1
  · simp [picData, PicInit.data, Pic.initPart, h1]
  · by_cases h2 : initStep = 2
    · simp [picData, PicInit.data, Pic.initPart, h2]
    · by_cases h3 : initStep = 3
      · simp [picData, PicInit.data, Pic.initPart, h3]
      · by_cases h0 : initStep = 0 <;> simp [picData, PicInit.data, Pic.initPart, h0, h1, h2, h3]

/-- What only main context's own operations set, and undo when they complete (R35, R40, R356). -/
structure Bookkeeping where
  gateBusy : Option Byte
  schedBusy : Bool
  pic1 : PicInit
  pic2 : PicInit

def State.book (s : State) : Bookkeeping :=
  { gateBusy := s.gateBusy, schedBusy := s.schedBusy, pic1 := s.pic1.initPart, pic2 := s.pic2.initPart }

/-- No operation's bookkeeping is set. -/
def Bookkeeping.Clear (b : Bookkeeping) : Prop :=
  b.gateBusy = none ∧ b.schedBusy = false ∧ b.pic1.step = 0 ∧ b.pic2.step = 0

theorem State.book_clear_iff (s : State) :
    s.book.Clear ↔ s.gateBusy = none ∧ s.schedBusy = false ∧ s.pic1.initStep = 0 ∧ s.pic2.initStep = 0 := Iff.rfl

/-- What a port write does to the bookkeeping (R356). -/
def Bookkeeping.written (b : Bookkeeping) (p : Port) (x : Byte) : Bookkeeping :=
  if p = pic1Cmd then { b with pic1 := b.pic1.command x }
  else if p = pic1Data then { b with pic1 := b.pic1.data }
  else if p = pic2Cmd then { b with pic2 := b.pic2.command x }
  else if p = pic2Data then { b with pic2 := b.pic2.data }
  else b

/-- The fields of the state that the invariant of the steps speaks of, apart from where main context stands; interrupt
context's ordinary work changes none of them. -/
structure Vitals where
  cfg : Config
  mem : Memory
  refused : Bool
  faults : List Fault
  redirect : Option Redirect
  book : Bookkeeping

def State.vitals (s : State) : Vitals :=
  { cfg := s.cfg, mem := s.mem, refused := s.refused, faults := s.faults, redirect := s.redirect, book := s.book }

theorem portWrite_vitals (s : State) (p : Port) (x : Byte) :
    (s.portWrite p x).vitals = { s.vitals with book := s.book.written p x } := by
  unfold State.portWrite Bookkeeping.written
  dsimp only
  split
  · rw [State.book, ← picCommand_initPart]; rfl
  · split
    · rw [State.book, ← picData_initPart _ x]; rfl
    · split
      · rw [State.book, ← picCommand_initPart]; rfl
      · split
        · rw [State.book, ← picData_initPart _ x]; rfl
        · split <;> rfl

theorem portRead_vitals (s : State) (p : Port) : (s.portRead p).vitals = s.vitals := by
  unfold State.portRead
  dsimp only
  repeat' split
  all_goals rfl

theorem acknowledge_vitals {s t : State} {v : Byte} (h : s.acknowledge = some (v, t)) : t.vitals = s.vitals := by
  unfold State.acknowledge at h
  dsimp only at h
  split at h
  · cases h
  · split at h <;> (cases h; rfl)

theorem landedOne_vitals (s : State) (x : Stimulus) : (landedOne s x).vitals = s.vitals := by
  cases x with
  | irq l => unfold landedOne; dsimp only; split <;> rfl
  | kbcBusy n => unfold landedOne; dsimp only; split <;> rfl
  | _ => rfl

/-! ### How a run stops -/

/-- At most one thing has stopped the run (R14, R344, R347): EXC_RESUME sends main context away only from a run that goes
on, and nowhere in a configuration that lists nothing but "past". -/
structure State.StopsOnce (t : State) : Prop where
  oneFault : t.faults.length ≤ 1
  redirectAlone : t.redirect ≠ none → t.faults = [] ∧ t.hang = none
  past : t.cfg.resumesPast → t.redirect = none

theorem State.stopsOnce_of_no_redirect {t : State} (hfaults : t.faults.length ≤ 1) (hredirect : t.redirect = none) :
    t.StopsOnce :=
  ⟨hfaults, fun h => absurd hredirect h, fun _ => hredirect⟩

/-- What every operation keeps, whatever lands in it and wherever it stops: the refused mark (R47), the configuration,
memory's canonical form, and that only one thing stops the run. -/
structure Orderly (s t : State) : Prop where
  refused : s.refused = true → t.refused = true
  cfg : t.cfg = s.cfg
  mem : s.mem.wf = true → t.mem.wf = true
  stops : s.faults = [] → s.redirect = none → t.StopsOnce

/-- An operation that leaves the bookkeeping alone, at every boundary. -/
structure Transparent (s t : State) : Prop extends Orderly s t where
  book : t.book = s.book

/-- An operation after which `Q` holds, where the run goes on to its end. -/
structure Reaches (s t : State) (Q : State → Prop) : Prop where
  orderly : Orderly s t
  done : t.live = true → Q t

/-- An operation that undoes the bookkeeping it sets, where the run goes on to its end. -/
abbrev Completes (s t : State) : Prop := Reaches s t fun t => s.book.Clear → t.book.Clear

theorem State.go_on_of_live {t : State} (h : t.live = true) : t.faults = [] ∧ t.redirect = none := by
  obtain ⟨hfaults, -, hredirect⟩ := t.live_iff.1 h
  exact ⟨hfaults, hredirect⟩

/-! ### Composition of `Orderly` -/

theorem Orderly.refl (s : State) : Orderly s s :=
  ⟨id, rfl, id, fun hf hr => State.stopsOnce_of_no_redirect (by simp [hf]) hr⟩

/-- One operation after another, where the first has stopped nothing. -/
theorem Orderly.trans {s t u : State} (h : Orderly s t)
    (hgo : s.faults = [] → s.redirect = none → t.faults = [] ∧ t.redirect = none) (k : Orderly t u) : Orderly s u :=
  ⟨k.refused ∘ h.refused, k.cfg.trans h.cfg, k.mem ∘ h.mem, fun hf hr => k.stops (hgo hf hr).1 (hgo hf hr).2⟩

theorem Orderly.andThen {s t : State} {k : State → State} (h : Orderly s t) (hk : t.live = true → Orderly t (k t)) :
    Orderly s (t.andThen k) := by
  rcases t.andThen_cases k with ⟨hl, e⟩ | ⟨_, e⟩
  · rw [e]; exact h.trans (fun _ _ => State.go_on_of_live hl) (hk hl)
  · rw [e]; exact h

/-- A write to fields that are not vital, or to the bookkeeping, before an operation. -/
theorem Orderly.after {s s' t : State} (k : Orderly s' t) (h : { s'.vitals with book := s.book } = s.vitals) :
    Orderly s t := by
  obtain ⟨hcfg, hmem, hrefused, hfaults, hredirect, -⟩ := Vitals.mk.inj h
  exact ⟨fun hs => k.refused (hrefused.trans hs), k.cfg.trans hcfg, fun hs => k.mem ((congrArg _ hmem).trans hs),
    fun hf hr => k.stops (hfaults.trans hf) (hredirect.trans hr)⟩

/-- A write that keeps memory canonical, before an operation. -/
theorem Orderly.after_mem {s t : State} {m : Memory} (k : Orderly { s with mem := m } t)
    (hm : s.mem.wf = true → m.wf = true) : Orderly s t :=
  ⟨k.refused, k.cfg, k.mem ∘ hm, k.stops⟩

/-! ### Composition of `Transparent` -/

theorem Transparent.refl (s : State) : Transparent s s := ⟨.refl s, rfl⟩

theorem Transparent.trans {s t u : State} (h : Transparent s t)
    (hgo : s.faults = [] → s.redirect = none → t.faults = [] ∧ t.redirect = none) (k : Transparent t u) :
    Transparent s u :=
  ⟨h.toOrderly.trans hgo k.toOrderly, k.book.trans h.book⟩

theorem Transparent.andThen_of_live {s t : State} {k : State → State} (h : Transparent s t)
    (hk : t.live = true → Transparent t (k t)) : Transparent s (t.andThen k) := by
  refine ⟨h.toOrderly.andThen fun hl => (hk hl).toOrderly, ?_⟩
  rcases t.andThen_cases k with ⟨hl, e⟩ | ⟨_, e⟩
  · rw [e]; exact (hk hl).book.trans h.book
  · rw [e]; exact h.book

theorem Transparent.andThen {s t : State} {k : State → State} (h : Transparent s t)
    (hk : ∀ u, Transparent u (k u)) : Transparent s (t.andThen k) :=
  h.andThen_of_live fun _ => hk t

theorem Transparent.after {s s' t : State} (k : Transparent s' t) (h : s'.vitals = s.vitals) : Transparent s t := by
  have hbook : s'.book = s.book := congrArg Vitals.book h
  exact ⟨k.toOrderly.after (by rw [← hbook]; exact h), k.book.trans hbook⟩

theorem Transparent.of_vitals {s t : State} (h : t.vitals = s.vitals) : Transparent s t := (Transparent.refl t).after h

theorem Transparent.after_mem {s t : State} {m : Memory} (k : Transparent { s with mem := m } t)
    (hm : s.mem.wf = true → m.wf = true) : Transparent s t :=
  ⟨k.toOrderly.after_mem hm, k.book⟩

/-- What of a batch has not landed is kept without a further effect (log 9). -/
theorem Transparent.putBack {s t : State} (h : Transparent s t) (xs : List Stimulus) : Transparent s (t.putBack xs) := by
  cases xs with
  | nil => exact h
  | cons x xs =>
    refine ⟨⟨h.refused, h.cfg, h.mem, fun hf hr => ?_⟩, h.book⟩
    obtain ⟨hone, halone, hpast⟩ := h.stops hf hr
    exact ⟨hone, halone, hpast⟩

theorem Transparent.reaches {s t : State} (h : Transparent s t) {Q : State → Prop} (hQ : t.book = s.book → Q t) :
    Reaches s t Q :=
  ⟨h.toOrderly, fun _ => hQ h.book⟩

theorem Transparent.completes {s t : State} (h : Transparent s t) : Completes s t :=
  h.reaches fun hb hs => hb ▸ hs

/-! ### Composition of `Reaches` and `Completes` -/

theorem Reaches.andThen {s t : State} {k : State → State} {P Q : State → Prop} (h : Reaches s t P)
    (hk : ∀ u, P u → Reaches u (k u) Q) : Reaches s (t.andThen k) Q := by
  refine ⟨h.orderly.andThen fun hl => (hk t (h.done hl)).orderly, ?_⟩
  rcases t.andThen_cases k with ⟨hl, e⟩ | ⟨hl, e⟩
  · rw [e]; exact (hk t (h.done hl)).done
  · rw [e, hl]; exact nofun

theorem Reaches.mono {s t : State} {P Q : State → Prop} (h : Reaches s t P) (hPQ : ∀ u, P u → Q u) : Reaches s t Q :=
  ⟨h.orderly, fun hl => hPQ t (h.done hl)⟩

theorem Reaches.after {s s' t : State} {Q : State → Prop} (k : Reaches s' t Q)
    (h : { s'.vitals with book := s.book } = s.vitals) : Reaches s t Q :=
  ⟨k.orderly.after h, k.done⟩

theorem Reaches.after_mem {s t : State} {m : Memory} {Q : State → Prop} (k : Reaches { s with mem := m } t Q)
    (hm : s.mem.wf = true → m.wf = true) : Reaches s t Q :=
  ⟨k.orderly.after_mem hm, k.done⟩

theorem Completes.andThen {s t : State} {k : State → State} (h : Completes s t) (hk : ∀ u, Completes u (k u)) :
    Completes s (t.andThen k) := by
  refine ⟨h.orderly.andThen fun _ => (hk t).orderly, ?_⟩
  rcases t.andThen_cases k with ⟨hl, e⟩ | ⟨hl, e⟩
  · rw [e]; exact fun hl' hs => (hk t).done hl' (h.done hl hs)
  · rw [e, hl]; exact nofun

theorem Completes.after {s s' t : State} (k : Completes s' t) (h : s'.vitals = s.vitals) : Completes s t := by
  have hbook : s'.book = s.book := congrArg Vitals.book h
  exact ⟨k.orderly.after (by rw [← hbook]; exact h), fun hl hs => k.done hl (hbook ▸ hs)⟩

theorem Completes.of_vitals {s t : State} (h : t.vitals = s.vitals) : Completes s t := (Transparent.of_vitals h).completes

/-! ### The ways to stop -/

theorem raise_transparent (s : State) (f : Fault) : Transparent s (s.raise f) :=
  ⟨⟨id, rfl, id, fun hf hr => State.stopsOnce_of_no_redirect (by simp [hf]) hr⟩, rfl⟩

theorem refuse_transparent (s : State) (r : Refuse) : Transparent s (s.refuse r) :=
  ⟨⟨fun _ => rfl, rfl, id, fun hf hr => State.stopsOnce_of_no_redirect (by simp [hf]) hr⟩, rfl⟩

/-- EXC_RESUME sends main context away from a run that goes on (R347). -/
theorem resumed_transparent {s : State} (v : Byte) (p : MainPoint) {r : Resume} (hs : s.live = true)
    (hr : s.cfg.resumesPast → r = .past) : Transparent s (s.resumed v p r) := by
  obtain ⟨hfaults, hhang, -⟩ := s.live_iff.1 hs
  have away (d : Redirect) (hpast : ¬ s.cfg.resumesPast) : Transparent s { s with redirect := some d } :=
    ⟨⟨id, rfl, id, fun _ _ => ⟨by simp [hfaults], fun _ => ⟨hfaults, hhang⟩, fun h => absurd h hpast⟩⟩, rfl⟩
  cases r with
  | past => exact .refl s
  | retry => exact away _ fun h => nomatch hr h
  | elsewhere program => exact away _ fun h => nomatch hr h

end Sys2Proof.Machine
end

section
/-! PROOFS. Everything that runs in interrupt context, and with it every delivery and every step boundary, is transparent:
it leaves main context's bookkeeping alone and stops the run in one way at most (R202, R342, R347). -/

namespace Sys2Proof.Machine

open Sys2Proof

/-! ### Stimuli and boundaries of interrupt context -/

theorem stimulusWith_transparent {deliver : Byte → State → State} (hd : ∀ v s, Transparent s (deliver v s))
    (x : Stimulus) (s : State) : Transparent s (stimulusWith deliver x s) := by
  cases hx : deliversNothing x with
  | true =>
    rw [stimulusWith_deliversNothing deliver x s hx]
    exact .of_vitals (landedOne_vitals s x)
  | false =>
    cases x with
    | take =>
      unfold stimulusWith
      dsimp only
      split
      · split
        · rename_i h; exact (hd _ _).after (acknowledge_vitals h)
        · exact .refl s
      · exact .refl s
    | deliver v =>
      unfold stimulusWith
      dsimp only
      split
      · exact hd v s
      · exact .refl s
    | _ => exact nomatch hx

/-- A batch, where going on after a stimulus means that it has stopped nothing. -/
theorem stimuliWith_transparent {goesOn : State → Bool} {deliver : Byte → State → State}
    (hd : ∀ v s, Transparent s (deliver v s))
    (hgo : ∀ x s, s.redirect = none → goesOn (stimulusWith deliver x s) = true →
      (stimulusWith deliver x s).faults = [] ∧ (stimulusWith deliver x s).redirect = none)
    (xs : List Stimulus) (s : State) : Transparent s (stimuliWith goesOn deliver xs s) := by
  induction xs generalizing s with
  | nil => exact .refl s
  | cons x xs ih =>
    have hx := stimulusWith_transparent hd x s
    rcases stimuliWith_cons goesOn deliver x xs s with ⟨hon, e⟩ | ⟨_, e⟩
    · rw [e]; exact hx.trans (fun _ hr => hgo x s hr hon) (ih _)
    · rw [e]; exact hx.putBack xs

theorem stimuliNested_transparent (xs : List Stimulus) (s : State) : Transparent s (stimuliNested xs s) := by
  refine stimuliWith_transparent (fun _ s => raise_transparent s .reentry) (fun x s hr hon => ⟨?_, ?_⟩) xs s
  · simpa using hon
  · exact (stimulusNested_opOwned x s).redirect.trans hr

theorem envI_transparent (s : State) : Transparent s (envI s) := by
  unfold envI
  split
  · exact .refl s
  · exact (stimuliNested_transparent _ _).after rfl

/-! ### The operations of interrupt context -/

theorem rbPushOp_transparent (e : Event) (s : State) : Transparent s (rbPushOp e s) := by
  unfold rbPushOp
  refine (envI_transparent s).andThen fun u => (envI_transparent u).andThen fun u => (envI_transparent u).andThen fun u => ?_
  split
  · exact .refl u
  · exact (envI_transparent u).andThen fun u =>
      Transparent.andThen (.after (envI_transparent _) rfl) fun u => .of_vitals rfl

theorem pollBusy_vitals (n : Nat) (s : State) : (pollBusy n s).vitals = s.vitals := by
  induction n generalizing s with
  | zero => exact portRead_vitals s kbdStatus
  | succ n ih => exact (ih s.poll).trans (portRead_vitals s kbdStatus)

theorem pollLoop_transparent (bs : List (List Stimulus)) (s : State) : Transparent s (pollLoop bs s) := by
  have poll : s.poll.vitals = s.vitals := portRead_vitals s kbdStatus
  induction bs generalizing s with
  | nil =>
    unfold pollLoop pollQuiet
    split
    · exact .of_vitals (pollBusy_vitals _ s)
    · exact .of_vitals poll
  | cons b bs ih =>
    unfold pollLoop
    split
    · exact Transparent.andThen (.after (stimuliNested_transparent b _) poll) fun u => ih u (portRead_vitals u kbdStatus)
    · exact .of_vitals poll

/-- A byte for the keyboard is none for a controller. -/
theorem portWrite_kbdData_vitals (s : State) (x : Byte) : (s.portWrite kbdData x).vitals = s.vitals :=
  portWrite_vitals s kbdData x

theorem ledWriteOp_transparent (s : State) : Transparent s (ledWriteOp s) := by
  unfold ledWriteOp
  refine (envI_transparent s).andThen fun u => (pollLoop_transparent _ u).andThen fun u => (envI_transparent u).andThen fun u => ?_
  refine Transparent.andThen (.after (envI_transparent _) (portWrite_kbdData_vitals u ledCmd)) fun u => ?_
  exact (pollLoop_transparent _ u).andThen fun u => (envI_transparent u).andThen fun u =>
    .of_vitals (portWrite_kbdData_vitals u _)

theorem emitNonzero_transparent (e : Event) (s : State) : Transparent s (emitNonzero e s) := by
  unfold emitNonzero
  split
  · exact .refl s
  · exact rbPushOp_transparent e s

theorem decodeNumpad_transparent (code : BitVec 7) (s : State) : Transparent s (decodeNumpad code s) := by
  unfold decodeNumpad
  split
  · exact emitNonzero_transparent _ s
  · exact (envI_transparent s).andThen fun u => emitNonzero_transparent _ u

theorem decodePress_transparent (rel : Bool) (code : BitVec 7) (s : State) : Transparent s (decodePress rel code s) := by
  unfold decodePress
  split
  · exact .refl s
  · exact (envI_transparent s).andThen (decodeNumpad_transparent code)

theorem decodeFn_transparent (rel : Bool) (code : BitVec 7) (s : State) : Transparent s (decodeFn rel code s) := by
  unfold decodeFn
  split
  · split
    · exact .refl s
    · exact rbPushOp_transparent _ s
  · exact (envI_transparent s).andThen (decodePress_transparent rel code)

theorem decodeExt_transparent (rel wasExt : Bool) (code : BitVec 7) (s : State) :
    Transparent s (decodeExt rel wasExt code s) := by
  unfold decodeExt
  split
  · split
    · exact .refl s
    · exact emitNonzero_transparent _ s
  · exact (envI_transparent s).andThen (decodeFn_transparent rel code)

theorem decodeSticky_transparent (rel wasExt : Bool) (code : BitVec 7) (s : State) :
    Transparent s (decodeSticky rel wasExt code s) := by
  unfold decodeSticky
  split
  · exact .of_vitals rfl
  · split
    · split
      · exact .refl s
      · exact (ledWriteOp_transparent _).after rfl
    · exact (envI_transparent s).andThen (decodeExt_transparent rel wasExt code)

theorem decodeKey_transparent (b : Byte) (s : State) : Transparent s (decodeKey b s) := by
  unfold decodeKey
  refine Transparent.andThen (.after (envI_transparent _) rfl) fun u => ?_
  unfold decodeAlias
  split
  · exact rbPushOp_transparent _ u
  · exact (envI_transparent u).andThen (decodeSticky_transparent _ _ _)

theorem decodeFrame_transparent (b : Byte) (s : State) : Transparent s (decodeFrame b s) := by
  unfold decodeFrame
  dsimp only
  split
  · exact (rbPushOp_transparent _ _).after rfl
  · refine Transparent.andThen (.after (envI_transparent _) rfl) fun u => ?_
    unfold decodeExtPrefix
    split
    · exact .of_vitals rfl
    · exact (envI_transparent u).andThen (decodeKey_transparent b)

theorem decodeOp_transparent (b : Byte) (s : State) : Transparent s (decodeOp b s) := by
  unfold decodeOp
  split
  · exact (rbPushOp_transparent _ _).after rfl
  · refine (envI_transparent s).andThen fun u => ?_
    unfold decodePausePrefix
    split
    · exact .of_vitals rfl
    · exact (envI_transparent u).andThen (decodeFrame_transparent b)

theorem intakeOp_transparent (s : State) : Transparent s (intakeOp s) := by
  unfold intakeOp
  exact Transparent.andThen (.after (envI_transparent _) (portRead_vitals s kbdData)) fun u => decodeOp_transparent _ u

/-! ### SCHEDULE, in the context whose boundary `bd` is -/

theorem armSlot_transparent {bd : State → State} (hbd : ∀ u, Transparent u (bd u)) (cb d : Word64) (i : Fin 16)
    (s : State) : Transparent s (armSlot bd cb d i s) := by
  unfold armSlot
  refine Transparent.andThen (.after (hbd _) rfl) fun u => Transparent.andThen (.after (hbd _) rfl) fun u => (hbd _).after rfl

theorem scheduleScan_transparent {bd : State → State} (hbd : ∀ u, Transparent u (bd u)) (cb d : Word64)
    (is : List (Fin 16)) (s : State) : Transparent s (scheduleScan bd cb d is s) := by
  induction is generalizing s with
  | nil => exact .refl s
  | cons i is ih =>
    unfold scheduleScan
    split
    · exact (hbd s).andThen ih
    · exact (hbd s).andThen (armSlot_transparent hbd cb d i)

/-- A callback's SCHEDULE does not set `sched_busy` (R229). -/
theorem scheduleOp_unguarded_transparent {bd : State → State} (hbd : ∀ u, Transparent u (bd u)) (cb d : Word64)
    (s : State) : Transparent s (scheduleOp bd false cb d s) := by
  unfold scheduleOp
  exact (hbd s).andThen fun u => (scheduleScan_transparent hbd cb d slots u).andThen .refl

/-! ### The scan, HANDLE and deliveries -/

theorem callbackRequest_transparent (w : RequestWord) (s : State) : Transparent s (callbackRequest w s) := by
  unfold callbackRequest
  cases decode w with
  | unknownOp => exact refuse_transparent s _
  | nonzeroUnused o => exact refuse_transparent s _
  | ok i =>
    cases i with
    | schedule cb d => exact scheduleOp_unguarded_transparent envI_transparent cb d s
    | uptime => exact .of_vitals rfl
    | format ms => exact .of_vitals rfl
    | _ => exact refuse_transparent s _

theorem callbackRequests_transparent (ws : List RequestWord) (s : State) : Transparent s (callbackRequests ws s) := by
  induction ws generalizing s with
  | nil => exact .refl s
  | cons w ws ih => exact (callbackRequest_transparent w s).andThen fun u => (envI_transparent u).andThen ih

theorem invokeOp_transparent (cb : CallbackId) (s : State) : Transparent s (invokeOp cb s) := by
  unfold invokeOp
  refine Transparent.andThen (.after (envI_transparent _) rfl) fun u => (callbackRequests_transparent _ u).andThen fun u => ?_
  split <;> exact .of_vitals rfl

theorem fireSlot_transparent (i : Fin 16) (s : State) : Transparent s (fireSlot i s) :=
  Transparent.andThen (.after (envI_transparent _) rfl) (invokeOp_transparent _)

theorem advanceSlots_transparent (is : List (Fin 16)) (s : State) : Transparent s (advanceSlots is s) := by
  induction is generalizing s with
  | nil => exact .refl s
  | cons i is ih =>
    unfold advanceSlots
    refine (Transparent.andThen ?_ envI_transparent).andThen ih
    split
    · exact (envI_transparent s).andThen (fireSlot_transparent i)
    · exact .refl s

theorem tickOp_transparent (s : State) : Transparent s (tickOp s) :=
  Transparent.andThen (.after (envI_transparent _) rfl) (advanceSlots_transparent slots)

/-- EOI_CMD starts no initialization sequence (R117, R356). -/
theorem portWrite_eoi_vitals (s : State) (p : Port) (h : p = pic1Cmd ∨ p = pic2Cmd) :
    (s.portWrite p eoiCmd).vitals = s.vitals := by
  rw [portWrite_vitals]
  rcases h with rfl | rfl <;> rfl

theorem eoiOp_transparent (line : Byte) (s : State) : Transparent s (eoiOp line s) := by
  unfold eoiOp
  refine Transparent.andThen ?_ fun u => .of_vitals (portWrite_eoi_vitals u pic1Cmd (.inl rfl))
  split
  · exact (envI_transparent _).after (portWrite_eoi_vitals s pic2Cmd (.inr rfl))
  · exact envI_transparent s

theorem handleVector_transparent (v : Byte) (s : State) : Transparent s (handleVector v s) := by
  have work (line : Byte) : Transparent s (lineWork line s) := by
    unfold lineWork
    split
    · exact tickOp_transparent s
    · split
      · exact intakeOp_transparent s
      · exact .refl s
  unfold handleVector
  split
  · exact .of_vitals rfl
  · split
    · exact (work _).andThen fun u => (envI_transparent u).andThen (eoiOp_transparent _)
    · exact .of_vitals rfl

theorem handleOp_transparent (v : Byte) (s : State) : Transparent s (handleOp v s) := by
  unfold handleOp
  exact Transparent.andThen (.after (envI_transparent _) rfl) fun u => (handleVector_transparent v u).andThen fun u =>
    (envI_transparent u).andThen fun u => .of_vitals rfl

theorem deliverHandle_transparent (v : Byte) (s : State) : Transparent s (deliverWith handleOp v s) := by
  rcases deliverWith_cases handleOp v s with ⟨f, _, e⟩ | ⟨w, _, e⟩
  · rw [e]; exact raise_transparent s f
  · rw [e]; exact Transparent.andThen (.after (handleOp_transparent w _) rfl) fun u => .of_vitals rfl

theorem deliverAt_transparent (p : MainPoint) (v : Byte) (s : State) : Transparent s (deliverAt p v s) := by
  have hdeliver := deliverHandle_transparent v s
  refine hdeliver.andThen_of_live fun hl => ?_
  split
  · refine resumed_transparent v p hl fun h => resumeAt_past _ _ _ ?_
    rwa [← hdeliver.cfg]
  · exact .refl _

theorem deliverOp_transparent (v : Byte) (s : State) : Transparent s (deliverOp v s) := deliverAt_transparent s.point v s

/-- A batch at a boundary of main context. -/
theorem stimuliLive_transparent (xs : List Stimulus) (s : State) :
    Transparent s (stimuliWith State.live deliverOp xs s) :=
  stimuliWith_transparent deliverOp_transparent (fun _ _ _ hon => State.go_on_of_live hon) xs s

theorem envM_transparent (s : State) : Transparent s (envM s) := by
  unfold envM
  split
  · exact .refl s
  · exact (stimuliLive_transparent _ _).after rfl

theorem boundary_transparent (s : State) : Transparent s (boundary s) := by
  unfold boundary
  split
  · exact envM_transparent s
  · exact envI_transparent s

end Sys2Proof.Machine
end

section
/-! PROOFS. The operations that set bookkeeping of main context (SCHEDULE, SET_GATE, IDT_INIT, PIC_REMAP) undo it where they
run to their end; with the transparent ones, every request completes (R35, R40, R356). -/

namespace Sys2Proof.Machine

open Sys2Proof

/-! ### SCHEDULE, SLEEP, RB_POP -/

/-- R230 step 6: a guarded SCHEDULE leaves `sched_busy` false. -/
theorem scheduleOp_completes (guarded : Bool) (cb d : Word64) (s : State) :
    Completes s (scheduleOp boundary guarded cb d s) := by
  cases guarded with
  | false => exact (scheduleOp_unguarded_transparent boundary_transparent cb d s).completes
  | true =>
    have keep {u t : State} (h : Transparent u t) (hu : u.book = { s.book with schedBusy := true }) :
        Reaches u t fun t => t.book = { s.book with schedBusy := true } := h.reaches fun ht => ht.trans hu
    unfold scheduleOp
    refine Reaches.andThen (.after (keep (boundary_transparent _) rfl) rfl) fun u hu =>
      Reaches.andThen (keep (scheduleScan_transparent boundary_transparent cb d slots u) hu) fun u hu => ?_
    refine ⟨(Orderly.refl _).after rfl, fun _ hs => ?_⟩
    have hbook : ({ u with schedBusy := false } : State).book = { s.book with schedBusy := false } :=
      congrArg (fun b : Bookkeeping => { b with schedBusy := false }) hu
    obtain ⟨hgate, -, hpic1, hpic2⟩ := hs
    exact hbook ▸ ⟨hgate, rfl, hpic1, hpic2⟩

theorem sleepOp_transparent (ms : Word64) (s : State) : Transparent s (sleepOp ms s) := by
  unfold sleepOp
  refine (boundary_transparent s).andThen fun u => ?_
  split
  · exact .refl u
  · split <;> exact .of_vitals rfl

theorem rbPopOp_transparent (s : State) : Transparent s (rbPopOp s) := by
  unfold rbPopOp
  refine (boundary_transparent s).andThen fun u => (boundary_transparent u).andThen fun u => ?_
  split
  · exact .of_vitals rfl
  · exact (boundary_transparent u).andThen fun u => (boundary_transparent u).andThen fun u =>
      Transparent.andThen (.after (boundary_transparent _) rfl) fun u => .of_vitals rfl

/-! ### SET_GATE and IDT_INIT -/

/-- R160 step 3: SET_GATE leaves `gate_busy` none, and no other bookkeeping changed. -/
theorem setGateOp_reaches (v : Byte) (h : Word64) (attr : Byte) (s : State) :
    Reaches s (setGateOp v h attr s) fun t => t.book = { s.book with gateBusy := none } := by
  have keep (u : State) (hu : u.book = { s.book with gateBusy := some v }) :
      Reaches u (boundary u) fun t => t.book = { s.book with gateBusy := some v } :=
    (boundary_transparent u).reaches fun ht => ht.trans hu
  have write (u : State) (m : Memory) (hm : u.mem.wf = true → m.wf = true)
      (hu : u.book = { s.book with gateBusy := some v }) :
      Reaches u (boundary { u with mem := m }) fun t => t.book = { s.book with gateBusy := some v } :=
    (keep { u with mem := m } hu).after_mem hm
  unfold setGateOp
  refine Reaches.andThen (.after (keep { s with gateBusy := some v } rfl) rfl) fun u hu =>
    Reaches.andThen (write u _ (writeGate_wf _ _ _ _) hu) fun u hu => ?_
  exact ⟨(Orderly.refl _).after rfl, fun _ => congrArg (fun b : Bookkeeping => { b with gateBusy := none }) hu⟩

theorem setGateOp_completes (v : Byte) (h : Word64) (attr : Byte) (s : State) : Completes s (setGateOp v h attr s) := by
  refine (setGateOp_reaches v h attr s).mono fun t ht hs => ?_
  obtain ⟨-, hsched, hpic1, hpic2⟩ := hs
  exact ht ▸ ⟨rfl, hsched, hpic1, hpic2⟩

theorem zeroSlots_transparent (vs : List Nat) (s : State) : Transparent s (zeroSlots vs s) := by
  induction vs generalizing s with
  | nil => exact .refl s
  | cons v vs ih => exact Transparent.andThen (.after_mem (boundary_transparent _) (memWrite_wf _ _ _ _)) ih

theorem installStubs_completes (vs : List Nat) (s : State) : Completes s (installStubs vs s) := by
  induction vs generalizing s with
  | nil => exact (Transparent.refl s).completes
  | cons v vs ih =>
    exact (setGateOp_completes _ _ _ s).andThen fun u => (boundary_transparent u).completes.andThen ih

theorem writePointer_wf (m : Memory) (c : Config) (h : m.wf = true) : (writePointer m c).wf = true :=
  memWrite_wf _ _ _ _ (memWrite_wf _ _ _ _ h)

theorem idtInitOp_completes (s : State) : Completes s (idtInitOp s) := by
  unfold idtInitOp
  split
  · exact (raise_transparent s .liveInit).completes
  · refine (boundary_transparent s).completes.andThen fun u => (zeroSlots_transparent _ u).completes.andThen fun u => ?_
    refine (installStubs_completes _ u).andThen fun u => (installStubs_completes _ u).andThen fun u => ?_
    have write : Transparent u (boundary { u with mem := writePointer u.mem u.cfg }) :=
      (boundary_transparent _).after_mem (writePointer_wf _ _)
    exact write.completes.andThen fun u => .of_vitals rfl

/-! ### PIC_REMAP -/

/-- The bookkeeping after port writes, in order. -/
def Bookkeeping.writtenAll (b : Bookkeeping) (ws : List (Port × Byte)) : Bookkeeping :=
  ws.foldl (fun b w => b.written w.1 w.2) b

theorem portWrite_orderly (s : State) (p : Port) (x : Byte) {t : State} (k : Orderly (s.portWrite p x) t) :
    Orderly s t :=
  k.after (by rw [portWrite_vitals]; rfl)

theorem portWrite_book (s : State) (p : Port) (x : Byte) : (s.portWrite p x).book = s.book.written p x :=
  congrArg Vitals.book (portWrite_vitals s p x)

theorem remapWrites_reaches (ws : List (Port × Byte)) (s : State) :
    Reaches s (remapWrites ws s) fun t => t.book = s.book.writtenAll ws := by
  induction ws generalizing s with
  | nil => exact (Transparent.refl s).reaches id
  | cons w ws ih =>
    obtain ⟨p, x⟩ := w
    have write : Reaches s (boundary (s.portWrite p x)) fun t => t.book = s.book.written p x :=
      ⟨portWrite_orderly s p x (boundary_transparent _).toOrderly,
        fun _ => (boundary_transparent _).book.trans (portWrite_book s p x)⟩
    refine write.andThen fun u hu => (ih u).mono fun t ht => ?_
    rw [ht, hu]
    rfl

/-- R181, R356: the ten writes take both controllers through their whole initialization sequence. -/
theorem writtenAll_remapSequence (b : Bookkeeping) (o1 o2 m1 m2 : Byte) :
    b.writtenAll (remapSequence o1 o2 m1 m2) =
      { b with pic1 := { step := 0, needIcw4 := true }, pic2 := { step := 0, needIcw4 := true } } := by
  simp [Bookkeeping.writtenAll, remapSequence, Bookkeeping.written, PicInit.command, PicInit.data]

theorem picRemapOp_completes (o1 o2 : Byte) (s : State) : Completes s (picRemapOp o1 o2 s) := by
  have read (u : State) (p : Port) : Transparent u (boundary (u.portRead p)) :=
    (boundary_transparent _).after (portRead_vitals u p)
  have writes (u : State) (m1 m2 : Byte) : Completes u (remapWrites (remapSequence o1 o2 m1 m2) u) := by
    refine (remapWrites_reaches _ u).mono fun t ht hu => ?_
    obtain ⟨hgate, hsched, -, -⟩ := hu
    rw [ht, writtenAll_remapSequence]
    exact ⟨hgate, hsched, rfl, rfl⟩
  unfold picRemapOp
  split
  · exact (raise_transparent s .liveInit).completes
  · split
    · exact (raise_transparent s .offsetBelow32).completes
    · refine (boundary_transparent s).completes.andThen fun u => (read u pic1Data).completes.andThen fun u => ?_
      refine (read u pic2Data).completes.andThen fun u => (writes u _ _).andThen fun u => ?_
      exact .of_vitals rfl

/-! ### Every request -/

/-- A request is its operation's body, or a refusal (R131, R229). -/
theorem admitted_completes {s t : State} {o : Op} {body : State → State} (h : s.admitted o body = .next t)
    (hbody : Completes s (body s)) : Completes s t := by
  unfold State.admitted at h
  split at h
  · cases h; exact hbody
  · cases h; exact (refuse_transparent s _).completes

theorem exec_completes {i : Instr} {s t : State} (h : exec i s = .next t) : Completes s t := by
  cases i with
  | setGate v h' attr => exact admitted_completes h (setGateOp_completes v h' attr s)
  | idtInit => exact admitted_completes h (idtInitOp_completes s)
  | picRemap o1 o2 => exact admitted_completes h (picRemapOp_completes o1 o2 s)
  | picEoi line => exact admitted_completes h (eoiOp_transparent line s).completes
  | handle v => exact admitted_completes h (handleOp_transparent v s).completes
  | tick => exact admitted_completes h (tickOp_transparent s).completes
  | advance => exact admitted_completes h (advanceSlots_transparent slots s).completes
  | schedule cb d => exact admitted_completes h (scheduleOp_completes _ cb d s)
  | sleep ms => exact admitted_completes h (sleepOp_transparent ms s).completes
  | uptime => exact admitted_completes h (.of_vitals rfl)
  | format ms => exact admitted_completes h (.of_vitals rfl)
  | kbdIntake => exact admitted_completes h (intakeOp_transparent s).completes
  | kbdDecode b => exact admitted_completes h (decodeOp_transparent b s).completes
  | kbdLedWrite => exact admitted_completes h (ledWriteOp_transparent s).completes
  | rbPush e => exact admitted_completes h (rbPushOp_transparent e s).completes
  | rbPop => exact admitted_completes h (rbPopOp_transparent s).completes

end Sys2Proof.Machine
end

section
/-! PROOFS. What a step can do: a hung context goes on hanging, or what the step began completes and is finished; and from it
the two obligations about every step, on the invariant and on the refused mark. -/

namespace Sys2Proof.Machine

open Sys2Proof

/-! ### What a step can do -/

/-- Main context's own step sets no bookkeeping (R236, R347). -/
theorem mainStep_transparent (s : State) : Transparent s (mainStep s) := by
  unfold mainStep
  split
  · exact .refl s
  · split <;> exact .of_vitals rfl
  · exact .of_vitals rfl
  · exact .refl s
  · exact (deliverAt_transparent _ _ s).andThen fun u => .of_vitals rfl

theorem hangStep_transparent (h : Hang) (s : State) : Transparent s (hangStep h s) := by
  unfold hangStep
  split
  · exact (stimuliNested_transparent _ _).after rfl
  · split
    · exact .of_vitals (portRead_vitals s kbdStatus)
    · exact .refl s
    · exact .refl s

theorem portRead_hang (s : State) (p : Port) : (s.portRead p).hang = s.hang := by
  unfold State.portRead
  dsimp only
  repeat' split
  all_goals rfl

theorem hangStep_hang (h : Hang) (s : State) : (hangStep h s).hang = s.hang := by
  unfold hangStep
  split
  · exact (stimuliNested_opOwned _ _).hang
  · split
    · exact portRead_hang s kbdStatus
    · rfl
    · rfl

/-- `t` is the end of a step from `s`, whose own work completes; what is to come next may have been rewritten. -/
def Finished (s t : State) : Prop := ∃ u inputs, Completes s u ∧ t = { s.finish u with inputs := inputs }

/-- The end of a step asks the state it began in only whether a handler was running. -/
theorem finish_congr {s s' : State} (t : State) (h : s'.inIrq = s.inIrq) : s'.finish t = s.finish t := by
  simp [State.finish, h]

/-- A step that has taken its input, or set other fields that are not vital, before its work. -/
theorem finished_of_completes {s s' u : State} (k : Completes s' u) (hvitals : s'.vitals = s.vitals)
    (hinIrq : s'.inIrq = s.inIrq) : Finished s (s'.finish u) :=
  ⟨u, (s.finish u).inputs, k.after hvitals, finish_congr u hinIrq⟩

theorem Finished.withInputs {s t : State} (h : Finished s t) (xs : List Input) : Finished s { t with inputs := xs } := by
  obtain ⟨u, _, hu, rfl⟩ := h
  exact ⟨u, xs, hu, rfl⟩

theorem runBatch_finished {s s' : State} (batch : List Stimulus) (during : List (List Stimulus))
    (hvitals : s'.vitals = s.vitals) (hinIrq : s'.inIrq = s.inIrq) : Finished s (runBatch batch during s') :=
  finished_of_completes ((stimuliLive_transparent _ { s' with script := during }).completes.after rfl) hvitals hinIrq

theorem runMain_finished {s s' : State} (during : List (List Stimulus)) (hvitals : s'.vitals = s.vitals)
    (hinIrq : s'.inIrq = s.inIrq) : Finished s (runMain during s') :=
  finished_of_completes ((mainStep_transparent { s' with script := during }).completes.after rfl) hvitals hinIrq

theorem runRequest_finished {s s' t : State} {issuer : Context} {w : RequestWord} {during : List (List Stimulus)}
    (h : runRequest issuer w during s' = .next t) (hvitals : s'.vitals = s.vitals) (hinIrq : s'.inIrq = s.inIrq) :
    Finished s t := by
  unfold runRequest at h
  split at h
  · split at h
    · rename_i hexec
      cases h
      exact finished_of_completes ((exec_completes hexec).after rfl) hvitals hinIrq
    · cases h
    · cases h
  · cases h
    exact finished_of_completes ((refuse_transparent _ _).completes.after rfl) hvitals hinIrq
  · cases h
    exact finished_of_completes ((refuse_transparent _ _).completes.after rfl) hvitals hinIrq

theorem runDrain_finished {s s' t : State} {scripts : List (List (List Stimulus))}
    (h : runDrain scripts s' = .next t) (hvitals : s'.vitals = s.vitals) (hinIrq : s'.inIrq = s.inIrq) : Finished s t := by
  unfold runDrain at h
  split at h
  · rename_i u hrun
    have hu : Finished s u := runRequest_finished hrun hvitals hinIrq
    cases h
    split
    · exact hu.withInputs _
    · exact hu
  · cases h
  · cases h

/-- What a step can do: a hung context takes its next batch or goes on hanging; else what the step began is finished. -/
theorem runStep_cases {s t : State} (h : runStep s = .next t) :
    (∃ hang, s.hang = some hang ∧ Transparent s t ∧ t.hang = some hang) ∨ (s.hang = none ∧ Finished s t) := by
  unfold runStep at h
  split at h
  · rename_i hang hhang
    cases h
    exact .inl ⟨hang, hhang, hangStep_transparent hang s, (hangStep_hang hang s).trans hhang⟩
  · rename_i hhang
    refine .inr ⟨hhang, ?_⟩
    split at h
    · cases h; exact runMain_finished _ rfl rfl
    · cases h; exact runBatch_finished _ _ rfl rfl
    · cases h; exact runMain_finished _ rfl rfl
    · split at h
      · exact runRequest_finished h rfl rfl
      · cases h; exact runMain_finished _ rfl rfl
    · split at h
      · exact runDrain_finished h rfl rfl
      · cases h; exact runMain_finished _ rfl rfl

/-- A step that answers a next state is one of a run that has recorded no fault (R14, R343). -/
theorem step_eq_next {s t : State} (h : step s = .next t) : s.faults = [] ∧ runStep s = .next t := by
  unfold step at h
  split at h
  · split at h
    · cases h
    · rename_i hfaults; exact ⟨hfaults, h⟩
  · cases h

/-! ### The end of a step -/

/-- The end of a step changes no vital field but the redirection. -/
theorem finish_vitals (s t : State) : (s.finish t).vitals = { t.vitals with redirect := (s.finish t).redirect } := by
  unfold State.finish
  split
  · rfl
  · rfl
  · dsimp only; split <;> rfl

theorem finish_hang (s t : State) : (s.finish t).hang = t.hang := by
  unfold State.finish
  split
  · rfl
  · rfl
  · dsimp only; split <;> rfl

/-- The end of a step takes a redirection up where it stands alone, and there is none elsewhere. -/
theorem finish_redirect (s : State) {t : State} (h : t.StopsOnce) : (s.finish t).redirect = none := by
  have stopped (ht : ¬ (t.faults = [] ∧ t.hang = none)) : t.redirect = none :=
    of_not_not fun hr => ht (h.redirectAlone hr)
  unfold State.finish
  split
  · rename_i hf; exact stopped fun ht => by simp [hf] at ht
  · rename_i hh; exact stopped fun ht => by simp [hh] at ht
  · dsimp only; split <;> rfl

/-- Where nothing has stopped the run, main context is the running one, and no operation is under way. -/
theorem finish_atRest (s t : State) (h : (s.finish t).live = true) :
    (s.finish t).ctx = .main ∧ (s.finish t).inIrq = s.inIrq ∧ (s.finish t).script = [] ∧
      (s.finish t).running = none ∧ (s.finish t).passed = 0 := by
  obtain ⟨hfaults, hhang, -⟩ := (State.live_iff _).1 h
  unfold State.finish at hfaults hhang ⊢
  split at hfaults
  · simp_all
  · simp_all
  · dsimp only; split <;> exact ⟨rfl, rfl, rfl, rfl, rfl⟩

/-! ### The obligations -/

/-- The invariant asks nothing of what is to come next. -/
theorem State.Inv.withInputs {s : State} (h : s.Inv) (xs : List Input) : ({ s with inputs := xs } : State).Inv := by
  obtain ⟨hmem, hone, hsettled, hrest, hwhole⟩ := h
  exact ⟨hmem, hone, hsettled, hrest, hwhole⟩

/-- What a step from a run that goes on completes ends in the invariant. -/
theorem finish_inv {s u : State} (hs : s.Inv) (hlive : s.live = true) (hu : Completes s u) : (s.finish u).Inv := by
  obtain ⟨hfaults, hredirect⟩ := State.go_on_of_live hlive
  have hstops : u.StopsOnce := hu.orderly.stops hfaults hredirect
  have hsettled := finish_redirect s hstops
  obtain ⟨hcfg', hmem', -, hfaults', -, hbook'⟩ := Vitals.mk.inj (finish_vitals s u)
  refine ⟨?_, ?_, hsettled, fun hl => ?_, fun hl hpast => ?_⟩
  · exact (congrArg Memory.wf hmem').trans (hu.orderly.mem hs.mem)
  · exact hfaults' ▸ hstops.oneFault
  · obtain ⟨hctx, hinIrq, hscript, hrunning, hpassed⟩ := finish_atRest s u hl
    obtain ⟨-, hinIrqStart, -⟩ := hs.atRest hlive
    exact ⟨hctx, hinIrq.trans hinIrqStart, hscript, hrunning, hpassed⟩
  · have hpastU : u.cfg.resumesPast := (congrArg Config.resumesPast hcfg').mp hpast
    have hpastS : s.cfg.resumesPast := (congrArg Config.resumesPast hu.orderly.cfg).mp hpastU
    obtain ⟨hf, hh, -⟩ := (State.live_iff _).1 hl
    have huLive : u.live = true :=
      u.live_iff.2 ⟨hfaults'.symm.trans hf, (finish_hang s u).symm.trans hh, hstops.past hpastU⟩
    have hclear : s.book.Clear := s.book_clear_iff.2 (hs.wholeOperations hlive hpastS)
    exact (State.book_clear_iff _).1 (hbook' ▸ hu.done huLive hclear)

/-- A hung context keeps the invariant: it stays hung, so nothing is asked of where main context stands. -/
theorem hung_inv {s t : State} (hs : s.Inv) (hfaults : s.faults = []) (h : Transparent s t) {hang : Hang}
    (ht : t.hang = some hang) : t.Inv := by
  have hstops := h.stops hfaults hs.settled
  have hnotLive : ¬ t.live = true := fun hl => by
    obtain ⟨-, hnone, -⟩ := t.live_iff.1 hl
    exact nomatch hnone.symm.trans ht
  have hsettled : t.redirect = none := of_not_not fun hr => by simp [(hstops.redirectAlone hr).2] at ht
  exact ⟨h.mem hs.mem, hstops.oneFault, hsettled, fun hl => absurd hl hnotLive, fun hl => absurd hl hnotLive⟩

/-- Settles O58: a hung context stays hung, and every other step finishes work that completes. -/
theorem stepKeepsInvariant : Obligations.StepKeepsInvariant := by
  unfold Obligations.StepKeepsInvariant
  intro s t hs h
  obtain ⟨hfaults, hrun⟩ := step_eq_next h
  rcases runStep_cases hrun with ⟨hang, -, htransparent, hhang⟩ | ⟨hhang, u, inputs, hu, rfl⟩
  · exact hung_inv hs hfaults htransparent hhang
  · exact (finish_inv hs (s.live_iff.2 ⟨hfaults, hhang, hs.settled⟩) hu).withInputs inputs

/-- Settles O60: no operation clears the mark, and the end of a step leaves it as it is. -/
theorem refusedMarkStays : Obligations.RefusedMarkStays := by
  unfold Obligations.RefusedMarkStays
  intro s t h hs
  obtain ⟨-, hrun⟩ := step_eq_next h
  rcases runStep_cases hrun with ⟨_, -, htransparent, -⟩ | ⟨-, u, _, hu, rfl⟩
  · exact htransparent.refused hs
  · exact (congrArg Vitals.refused (finish_vitals s u)).trans (hu.orderly.refused hs)

end Sys2Proof.Machine
end

section
/-! PROOFS. Regions of memory and the writes that stay in one (R11, R80): where a region lies in another, when two share
an address, and which bytes the three memory writes of the table builder can change. -/

namespace Sys2Proof.Machine

open Sys2Proof

/-! ### Regions -/

/-- An address of a region, counted from another base. -/
theorem byteAt_add_sub (b d : Word64) (k : Nat) : byteAt b ((d - b).toNat + k) = byteAt d k := by
  unfold byteAt
  rw [BitVec.ofNat_add, BitVec.ofNat_toNat, BitVec.setWidth_eq, ← BitVec.add_assoc, BitVec.add_comm b,
    BitVec.sub_add_cancel]

/-- A region that starts inside another and ends no later lies in it. -/
theorem inRegion_of_within {b d : Word64} {n N a : Nat} (h : (d - b).toNat + n ≤ N) (ha : inRegion d n a) :
    inRegion b N a := by
  obtain ⟨k, hk, rfl⟩ := ha
  exact ⟨(d - b).toNat + k, by omega, (byteAt_add_sub b d k).symm⟩

/-- Two regions share an address exactly where one starts inside the other, modulo 2^64 (log 16). -/
theorem regions_share_iff (b p : Word64) {m n : Nat} (hm : 0 < m) (hn : 0 < n) :
    (∃ a, inRegion b m a ∧ inRegion p n a) ↔ (p - b).toNat < m ∨ (b - p).toNat < n := by
  constructor
  · rintro ⟨_, ⟨j, hj, rfl⟩, ⟨k, hk, hjk⟩⟩
    have hmod : (b.toNat + j) % 2 ^ 64 = (p.toNat + k) % 2 ^ 64 := by simpa [byteAt] using hjk
    have hb := b.isLt
    have hp := p.isLt
    rw [BitVec.toNat_sub, BitVec.toNat_sub]
    omega
  · rintro (h | h)
    · exact ⟨byteAt p 0, inRegion_of_within (n := 1) (by omega) ⟨0, by omega, rfl⟩, ⟨0, hn, rfl⟩⟩
    · exact ⟨byteAt b 0, ⟨0, hm, rfl⟩, inRegion_of_within (n := 1) (by omega) ⟨0, by omega, rfl⟩⟩

/-! ### Writes that stay in a set of addresses -/

/-- From a canonical memory, `m'` is canonical and differs from `m` at no address outside `R`. -/
structure ChangesOnly (R : Nat → Prop) (m m' : Memory) : Prop where
  wf : m.wf = true → m'.wf = true
  outside : m.wf = true → ∀ a, ¬ R a → readByte m' a = readByte m a

theorem ChangesOnly.refl (R : Nat → Prop) (m : Memory) : ChangesOnly R m m := ⟨id, fun _ _ _ => rfl⟩

theorem ChangesOnly.trans {R : Nat → Prop} {m m' m'' : Memory} (h : ChangesOnly R m m') (k : ChangesOnly R m' m'') :
    ChangesOnly R m m'' :=
  ⟨k.wf ∘ h.wf, fun hm a ha => (k.outside (h.wf hm) a ha).trans (h.outside hm a ha)⟩

theorem ChangesOnly.mono {R R' : Nat → Prop} {m m' : Memory} (h : ChangesOnly R m m') (hR : ∀ a, R a → R' a) :
    ChangesOnly R' m m' :=
  ⟨h.wf, fun hm a ha => h.outside hm a (mt (hR a) ha)⟩

@[simp] theorem leBytes_length (n v : Nat) : (leBytes n v).length = n := by
  induction n generalizing v with
  | zero => rfl
  | succ n ih => simp [leBytes, ih]

/-- MemWrite changes the bytes of its own region only (R11). -/
theorem memWrite_changesOnly (m : Memory) (d : Word64) (n v : Nat) : ChangesOnly (inRegion d n) m (memWrite m d n v) :=
  ⟨memWrite_wf m d n v, fun hm a ha => readByte_writeBytes_outside m d _ a hm (by rwa [leBytes_length])⟩

/-- A write into a part of a region changes that region only. -/
theorem memWrite_changesOnly_within (m : Memory) {b d : Word64} {n N : Nat} (v : Nat) (h : (d - b).toNat + n ≤ N) :
    ChangesOnly (inRegion b N) m (memWrite m d n v) :=
  (memWrite_changesOnly m d n v).mono fun _ => inRegion_of_within h

/-- The seven writes of a descriptor stay in its sixteen bytes (R160, R111). -/
theorem writeGate_changesOnly (m : Memory) (d h : Word64) (attr : Byte) :
    ChangesOnly (inRegion d 16) m (writeGate m d h attr) := by
  have field (m : Memory) (k : Word64) (n v : Nat) (hk : k.toNat + n ≤ 16) :
      ChangesOnly (inRegion d 16) m (memWrite m (d + k) n v) :=
    memWrite_changesOnly_within m v (by rwa [BitVec.add_comm, BitVec.add_sub_cancel])
  have first : ChangesOnly (inRegion d 16) m (memWrite m d 2 (offsetLo h).toNat) :=
    memWrite_changesOnly_within m _ (by simp)
  unfold writeGate
  exact first.trans <| (field _ 2 2 _ (by decide)).trans <| (field _ 4 1 _ (by decide)).trans <|
    (field _ 5 1 _ (by decide)).trans <| (field _ 6 2 _ (by decide)).trans <| (field _ 8 4 _ (by decide)).trans <|
    field _ 12 4 _ (by decide)

/-- The two writes of the pointer record stay in its ten bytes (R161, R115). -/
theorem writePointer_changesOnly (m : Memory) (c : Config) :
    ChangesOnly (inRegion c.idtpAddr 10) m (writePointer m c) := by
  have limit : ChangesOnly (inRegion c.idtpAddr 10) m (memWrite m c.idtpAddr 2 idtLimit.toNat) :=
    memWrite_changesOnly_within m _ (by simp)
  refine limit.trans (memWrite_changesOnly_within _ _ ?_)
  rw [BitVec.add_comm, BitVec.add_sub_cancel]
  decide

/-- Every slot lies in the table (R33). -/
theorem blockAddress_of_slot (c : Config) (v : Byte) (a : Nat) (h : inRegion (slotAddr c.idtBase v) 16 a) :
    blockAddress c a := by
  have offset : (slotAddr c.idtBase v - c.idtBase).toNat = 16 * v.toNat := by
    unfold slotAddr
    bv_omega
  exact .inl (inRegion_of_within (by omega) h)

end Sys2Proof.Machine
end

section
/-! PROOFS. A run that goes on answers every input with a next state, so that `configOverlap` is the answer exactly where
the regions of the configuration share an address (R80, R343). -/

namespace Sys2Proof.Machine

open Sys2Proof

/-- R80: a configuration is well-formed exactly where its two regions share no address. -/
theorem wellFormed_iff_disjoint (c : Config) :
    c.wellFormed = true ↔ ¬ ∃ a, inRegion c.idtBase 4096 a ∧ inRegion c.idtpAddr 10 a := by
  rw [regions_share_iff _ _ (by decide) (by decide)]
  simp [Config.wellFormed]

/-- A request runs or is marked refused (R131, R343); either is a next state. -/
theorem admitted_answers (s : State) (o : Op) (body : State → State) : ∃ t, s.admitted o body = .next t := by
  cases h : opAdmits o s.ctx with
  | true => exact ⟨_, admitted_next s o body h⟩
  | false => exact ⟨_, admitted_refused s o body h⟩

theorem exec_answers (i : Instr) (s : State) : ∃ t, exec i s = .next t := by
  cases i <;> exact admitted_answers s _ _

theorem runRequest_answers (issuer : Context) (w : RequestWord) (during : List (List Stimulus)) (s : State) :
    ∃ t, runRequest issuer w during s = .next t := by
  unfold runRequest
  split
  · rename_i i _
    obtain ⟨t, ht⟩ := exec_answers i (s.begin issuer (some i) during)
    exact ⟨s.finish t, by rw [ht]⟩
  · exact ⟨_, rfl⟩
  · exact ⟨_, rfl⟩

theorem runDrain_answers (scripts : List (List (List Stimulus))) (s : State) : ∃ t, runDrain scripts s = .next t := by
  obtain ⟨t, ht⟩ := runRequest_answers .main (encode .rbPop) (scripts.headD [])
    { s with ret := .none, inputs := .drain scripts.tail :: s.inputs }
  exact ⟨_, by rw [runDrain, ht]⟩

theorem runStep_answers (s : State) : ∃ t, runStep s = .next t := by
  unfold runStep
  split
  · exact ⟨_, rfl⟩
  · split
    · exact ⟨_, rfl⟩
    · exact ⟨_, rfl⟩
    · exact ⟨_, rfl⟩
    · split
      · exact runRequest_answers _ _ _ _
      · exact ⟨_, rfl⟩
    · split
      · exact runDrain_answers _ _
      · exact ⟨_, rfl⟩

/-- Under a well-formed configuration a step answers the recorded fault or a next state, and refuses nothing. -/
theorem step_ne_refused {s : State} (hwf : s.cfg.wellFormed = true) (r : Refusal) : step s ≠ .refused r := by
  cases hfaults : s.faults with
  | nil =>
    obtain ⟨t, ht⟩ := runStep_answers s
    rw [step_of_faults_nil hwf hfaults, ht]
    exact nofun
  | cons f fs =>
    rw [step_of_faults_cons hwf hfaults]
    exact nofun

/-- Settles O9: the model's check is that the regions are disjoint, and nothing else refuses a step. -/
theorem overlappingConfigRefused : Obligations.OverlappingConfigRefused := by
  unfold Obligations.OverlappingConfigRefused
  intro s
  refine ⟨fun hshare => step_of_not_wellFormed ?_, fun hdisjoint => ?_⟩
  · exact Bool.eq_false_iff.2 fun hwf => (wellFormed_iff_disjoint s.cfg).1 hwf hshare
  · exact step_ne_refused ((wellFormed_iff_disjoint s.cfg).2 hdisjoint) _

end Sys2Proof.Machine
end

section
/-! PROOFS. Every request writes memory in the table and the pointer record only (R80), whatever lands at its step
boundaries: what lands writes no memory at all, and the operations' own writes are those of SET_GATE and IDT_INIT. -/

namespace Sys2Proof.Machine

open Sys2Proof

/-- From `s` to `t` the configuration stays, and memory changes in the table and the pointer record only. -/
structure WritesInBlock (s t : State) : Prop where
  cfg : t.cfg = s.cfg
  mem : ChangesOnly (blockAddress s.cfg) s.mem t.mem

/-! ### Composition -/

theorem WritesInBlock.refl (s : State) : WritesInBlock s s := ⟨rfl, .refl _ _⟩

theorem WritesInBlock.trans {s t u : State} (h : WritesInBlock s t) (k : WritesInBlock t u) : WritesInBlock s u :=
  ⟨k.cfg.trans h.cfg, h.mem.trans (h.cfg ▸ k.mem)⟩

/-- An update of fields other than the configuration and memory. -/
theorem WritesInBlock.of_eq {s t : State} (hcfg : t.cfg = s.cfg) (hmem : t.mem = s.mem) : WritesInBlock s t :=
  ⟨hcfg, hmem ▸ .refl _ _⟩

/-- Such an update before an operation. -/
theorem WritesInBlock.after {s s' t : State} (k : WritesInBlock s' t) (hcfg : s'.cfg = s.cfg) (hmem : s'.mem = s.mem) :
    WritesInBlock s t :=
  (WritesInBlock.of_eq hcfg hmem).trans k

/-- A memory write before an operation. -/
theorem WritesInBlock.after_mem {s t : State} {m : Memory} (k : WritesInBlock { s with mem := m } t)
    (hm : ChangesOnly (blockAddress s.cfg) s.mem m) : WritesInBlock s t :=
  WritesInBlock.trans (t := { s with mem := m }) ⟨rfl, hm⟩ k

theorem WritesInBlock.andThen {s t : State} {k : State → State} (h : WritesInBlock s t)
    (hk : ∀ u, WritesInBlock u (k u)) : WritesInBlock s (t.andThen k) := by
  rcases t.andThen_cases k with ⟨_, e⟩ | ⟨_, e⟩
  · rw [e]; exact h.trans (hk t)
  · rw [e]; exact h

/-- What leaves main context's part of the state alone writes no memory. -/
theorem MainOwned.writesInBlock {s t : State} (h : MainOwned s t) : WritesInBlock s t := .of_eq h.cfg h.mem

theorem boundary_writesInBlock (s : State) : WritesInBlock s (boundary s) := (boundary_mainOwned s).writesInBlock

/-! ### The operations of main context that write no memory -/

theorem armSlot_writesInBlock (cb d : Word64) (i : Fin 16) (s : State) :
    WritesInBlock s (armSlot boundary cb d i s) := by
  have write (u : State) (x : Timeout) : WritesInBlock u (boundary (u.setSlot i x)) :=
    (boundary_writesInBlock _).after rfl rfl
  exact (write s _).andThen fun u => (write u _).andThen fun u => write u _

theorem scheduleScan_writesInBlock (cb d : Word64) (is : List (Fin 16)) (s : State) :
    WritesInBlock s (scheduleScan boundary cb d is s) := by
  induction is generalizing s with
  | nil => exact .refl s
  | cons i is ih =>
    unfold scheduleScan
    split
    · exact (boundary_writesInBlock s).andThen ih
    · exact (boundary_writesInBlock s).andThen (armSlot_writesInBlock cb d i)

theorem scheduleOp_writesInBlock (guarded : Bool) (cb d : Word64) (s : State) :
    WritesInBlock s (scheduleOp boundary guarded cb d s) := by
  unfold scheduleOp
  refine WritesInBlock.andThen ?_ fun u => (scheduleScan_writesInBlock cb d slots u).andThen fun u => ?_
  · refine (boundary_writesInBlock _).after ?_ ?_ <;> split <;> rfl
  · split
    · exact .of_eq rfl rfl
    · exact .refl u

theorem sleepOp_writesInBlock (ms : Word64) (s : State) : WritesInBlock s (sleepOp ms s) := by
  unfold sleepOp
  refine (boundary_writesInBlock s).andThen fun u => ?_
  split
  · exact .refl u
  · split <;> exact .of_eq rfl rfl

theorem rbPopOp_writesInBlock (s : State) : WritesInBlock s (rbPopOp s) := by
  unfold rbPopOp
  refine (boundary_writesInBlock s).andThen fun u => (boundary_writesInBlock u).andThen fun u => ?_
  split
  · exact .of_eq rfl rfl
  · refine (boundary_writesInBlock u).andThen fun u => (boundary_writesInBlock u).andThen fun u => ?_
    exact WritesInBlock.andThen (.after (boundary_writesInBlock _) rfl rfl) fun u => .of_eq rfl rfl

theorem remapWrites_writesInBlock (ws : List (Port × Byte)) (s : State) : WritesInBlock s (remapWrites ws s) := by
  induction ws generalizing s with
  | nil => exact .refl s
  | cons w ws ih =>
    exact ((portWrite_mainOwned s _ _).trans (boundary_mainOwned _)).writesInBlock.andThen ih

theorem picRemapOp_writesInBlock (o1 o2 : Byte) (s : State) : WritesInBlock s (picRemapOp o1 o2 s) := by
  have read (u : State) (p : Port) : WritesInBlock u (boundary (u.portRead p)) :=
    ((portRead_mainOwned u p).trans (boundary_mainOwned _)).writesInBlock
  unfold picRemapOp
  split
  · exact .of_eq rfl rfl
  · split
    · exact .of_eq rfl rfl
    · refine (boundary_writesInBlock s).andThen fun u => (read u pic1Data).andThen fun u => ?_
      exact (read u pic2Data).andThen fun u => (remapWrites_writesInBlock _ u).andThen fun u => .of_eq rfl rfl

/-! ### SET_GATE and IDT_INIT -/

theorem setGateOp_writesInBlock (v : Byte) (h : Word64) (attr : Byte) (s : State) :
    WritesInBlock s (setGateOp v h attr s) := by
  have gate (u : State) :
      WritesInBlock u (boundary { u with mem := writeGate u.mem (slotAddr u.cfg.idtBase v) h attr }) :=
    (boundary_writesInBlock _).after_mem ((writeGate_changesOnly _ _ h attr).mono (blockAddress_of_slot u.cfg v))
  unfold setGateOp
  exact WritesInBlock.andThen (.after (boundary_writesInBlock _) rfl rfl) fun u =>
    (gate u).andThen fun u => .of_eq rfl rfl

theorem zeroSlots_writesInBlock (vs : List Nat) (s : State) : WritesInBlock s (zeroSlots vs s) := by
  induction vs generalizing s with
  | nil => exact .refl s
  | cons v vs ih =>
    have zero := (memWrite_changesOnly s.mem (slotAddr s.cfg.idtBase (BitVec.ofNat 8 v)) 16 0).mono
      (blockAddress_of_slot s.cfg _)
    exact WritesInBlock.andThen (.after_mem (boundary_writesInBlock _) zero) ih

theorem installStubs_writesInBlock (vs : List Nat) (s : State) : WritesInBlock s (installStubs vs s) := by
  induction vs generalizing s with
  | nil => exact .refl s
  | cons v vs ih =>
    exact (setGateOp_writesInBlock _ _ _ s).andThen fun u => (boundary_writesInBlock u).andThen ih

theorem idtInitOp_writesInBlock (s : State) : WritesInBlock s (idtInitOp s) := by
  have pointer (u : State) : WritesInBlock u (boundary { u with mem := writePointer u.mem u.cfg }) :=
    (boundary_writesInBlock _).after_mem ((writePointer_changesOnly _ _).mono fun _ => .inr)
  unfold idtInitOp
  split
  · exact .of_eq rfl rfl
  · refine (boundary_writesInBlock s).andThen fun u => (zeroSlots_writesInBlock _ u).andThen fun u => ?_
    refine (installStubs_writesInBlock _ u).andThen fun u => (installStubs_writesInBlock _ u).andThen fun u => ?_
    exact (pointer u).andThen fun u => .of_eq rfl rfl

/-! ### Every request -/

theorem admitted_writesInBlock {s t : State} {o : Op} {body : State → State} (h : s.admitted o body = .next t)
    (hbody : WritesInBlock s (body s)) : WritesInBlock s t := by
  unfold State.admitted at h
  split at h
  · cases h; exact hbody
  · cases h; exact .of_eq rfl rfl

theorem exec_writesInBlock {i : Instr} {s t : State} (h : exec i s = .next t) : WritesInBlock s t := by
  cases i with
  | setGate v h' attr => exact admitted_writesInBlock h (setGateOp_writesInBlock v h' attr s)
  | idtInit => exact admitted_writesInBlock h (idtInitOp_writesInBlock s)
  | picRemap o1 o2 => exact admitted_writesInBlock h (picRemapOp_writesInBlock o1 o2 s)
  | picEoi line => exact admitted_writesInBlock h (eoiOp_mainOwned line s).writesInBlock
  | handle v => exact admitted_writesInBlock h (handleOp_mainOwned v s).writesInBlock
  | tick => exact admitted_writesInBlock h (tickOp_mainOwned s).writesInBlock
  | advance => exact admitted_writesInBlock h (advanceSlots_mainOwned slots s).writesInBlock
  | schedule cb d => exact admitted_writesInBlock h (scheduleOp_writesInBlock _ cb d s)
  | sleep ms => exact admitted_writesInBlock h (sleepOp_writesInBlock ms s)
  | uptime => exact admitted_writesInBlock h (.of_eq rfl rfl)
  | format ms => exact admitted_writesInBlock h (.of_eq rfl rfl)
  | kbdIntake => exact admitted_writesInBlock h (intakeOp_mainOwned s).writesInBlock
  | kbdDecode b => exact admitted_writesInBlock h (decodeOp_mainOwned b s).writesInBlock
  | kbdLedWrite => exact admitted_writesInBlock h (ledWriteOp_mainOwned s).writesInBlock
  | rbPush e => exact admitted_writesInBlock h (rbPushOp_mainOwned e s).writesInBlock
  | rbPop => exact admitted_writesInBlock h (rbPopOp_writesInBlock s)

/-- Settles O59: each request's writes stay in the block, so a canonical memory reads as before outside it. -/
theorem writesStayInTableAndPointer : Obligations.WritesStayInTableAndPointer := by
  unfold Obligations.WritesStayInTableAndPointer
  intro i s t hwf h
  exact (exec_writesInBlock h).mem.outside hwf

end Sys2Proof.Machine
end

section
/-! PROOFS. The codec of request records (R130 to R132): a record is its four fields, a selector byte names an operation
exactly where it is that operation's, and the decoder's mask is the check that the unused fields are zero. -/

namespace Sys2Proof

/-! ### A record and its fields (R130) -/

@[simp] theorem Request.ofWord_toWord (r : Request) : Request.ofWord r.toWord = r := by
  obtain ⟨op, a, b, c⟩ := r
  have hop : (c ++ b ++ a ++ op).extractLsb' 0 8 = op := BitVec.extractLsb'_append_eq_right
  have ha : (c ++ b ++ a ++ op).extractLsb' 8 8 = a :=
    (BitVec.extractLsb'_append_eq_of_le (by decide)).trans BitVec.extractLsb'_append_eq_right
  have hb : (c ++ b ++ a ++ op).extractLsb' 16 64 = b :=
    (BitVec.extractLsb'_append_eq_of_le (by decide)).trans <|
      (BitVec.extractLsb'_append_eq_of_le (by decide)).trans BitVec.extractLsb'_append_eq_right
  have hc : (c ++ b ++ a ++ op).extractLsb' 80 64 = c :=
    (BitVec.extractLsb'_append_eq_of_le (by decide)).trans <|
      (BitVec.extractLsb'_append_eq_of_le (by decide)).trans BitVec.extractLsb'_append_eq_left
  exact congr (congr (congr (congrArg Request.mk hop) ha) hb) hc

@[simp] theorem Request.toWord_ofWord (w : RequestWord) : (Request.ofWord w).toWord = w := by
  calc (Request.ofWord w).toWord
      = w.extractLsb' 80 64 ++ w.extractLsb' 16 64 ++ w.extractLsb' 8 8 ++ w.extractLsb' 0 8 := rfl
    _ = w.extractLsb' 0 144 := by
      rw [BitVec.extractLsb'_append_extractLsb'_eq_extractLsb' (show 80 = 16 + 64 from rfl),
        BitVec.extractLsb'_append_extractLsb'_eq_extractLsb' (show 16 = 8 + 8 from rfl),
        BitVec.extractLsb'_append_extractLsb'_eq_extractLsb' (show 8 = 0 + 8 from rfl)]
    _ = w := BitVec.extractLsb'_eq_self

/-- A record is zero exactly where its four fields are. -/
theorem Request.eq_zero_iff (w : RequestWord) :
    w = 0 ↔ (Request.ofWord w).op = 0 ∧ (Request.ofWord w).a = 0 ∧ (Request.ofWord w).b = 0 ∧
      (Request.ofWord w).c = 0 := by
  constructor
  · rintro rfl
    decide
  · intro h
    rw [← Request.toWord_ofWord w]
    generalize Request.ofWord w = r at h
    obtain ⟨op, a, b, c⟩ := r
    obtain ⟨rfl, rfl, rfl, rfl⟩ := h
    decide

/-- A mask applies to each field. -/
theorem Request.ofWord_and (w m : RequestWord) :
    Request.ofWord (w &&& m) =
      { op := (Request.ofWord w).op &&& (Request.ofWord m).op, a := (Request.ofWord w).a &&& (Request.ofWord m).a
        b := (Request.ofWord w).b &&& (Request.ofWord m).b, c := (Request.ofWord w).c &&& (Request.ofWord m).c } := by
  simp only [Request.ofWord, BitVec.extractLsb'_and]

/-! ### Selectors (R131, R132) -/

/-- A selector byte names an operation exactly where it is that operation's in the table of R131. -/
theorem Op.ofSelector_eq_some_iff (x : Byte) (o : Op) : Op.ofSelector x = some o ↔ x = o.selector := by
  constructor
  · intro h
    unfold Op.ofSelector at h
    split at h
    all_goals cases h
    all_goals exact BitVec.eq_of_toNat_eq ‹_›
  · rintro rfl
    cases o <;> rfl

theorem Op.ofSelector_eq_none_iff (x : Byte) : Op.ofSelector x = none ↔ x = 0x00 ∨ 0x11 ≤ x.toNat := by
  revert x
  decide

theorem Op.mem_all (o : Op) : o ∈ Op.all := by
  cases o <;> decide

/-! ### Unused fields (R130) -/

/-- The bits of `x` from bit `k` on are 0 exactly where `x` is below `2 ^ k`. -/
theorem and_shiftLeft_eq_zero_iff {n : Nat} (x : BitVec n) (k : Nat) :
    x &&& BitVec.allOnes n <<< k = 0#n ↔ x.toNat < 2 ^ k := by
  have hkept : (x &&& BitVec.allOnes n <<< k).toNat = x.toNat / 2 ^ k * 2 ^ k := by
    rw [← BitVec.shiftLeft_ushiftRight, BitVec.toNat_shiftLeft, BitVec.toNat_ushiftRight, Nat.shiftRight_eq_div_pow,
      Nat.shiftLeft_eq, Nat.mod_eq_of_lt ((Nat.div_mul_le_self _ _).trans_lt x.isLt)]
  rw [← BitVec.toNat_inj, hkept]
  simp [Nat.div_eq_zero_iff]

/-- The `must_be_zero` column of the opcode table is R131's list of unused fields. -/
theorem and_mustBeZero_eq_zero_iff (w : RequestWord) (o : Op) :
    w &&& o.mustBeZero = 0 ↔ o.unusedZero (Request.ofWord w) = true := by
  have hbyte (x : Byte) : x &&& 255#8 = x := BitVec.and_allOnes
  have hword (x : Word64) : x &&& 18446744073709551615#64 = x := BitVec.and_allOnes
  have hlow8 (x : Word64) : x &&& 18446744073709551360#64 = 0#64 ↔ x.toNat < 256 := and_shiftLeft_eq_zero_iff x 8
  have hlow16 (x : Word64) : x &&& 18446744073709486080#64 = 0#64 ↔ x.toNat < 65536 := and_shiftLeft_eq_zero_iff x 16
  rw [Request.eq_zero_iff, Request.ofWord_and]
  generalize Request.ofWord w = r
  cases o <;> simp [Op.mustBeZero, Op.unusedZero, Request.ofWord, hbyte, hword, hlow8, hlow16, and_assoc]

/-! ### Operands (R131) -/

theorem Instr.assemble_fields (i : Instr) : i.op.assemble i.fields = i := by
  cases i with
  | setGate v h attr => simp [Instr.op, Instr.fields, Op.assemble]
  | picRemap o1 o2 => simp [Instr.op, Instr.fields, Op.assemble]
  | rbPush e => simp [Instr.op, Instr.fields, Op.assemble]
  | _ => rfl

/-- A field that fits `k` bits is not changed by cutting it to them. -/
theorem setWidth_setWidth_of_lt {n : Nat} (x : BitVec n) (k : Nat) (h : x.toNat < 2 ^ k) :
    (x.setWidth k).setWidth n = x := by
  apply BitVec.eq_of_toNat_eq
  rw [BitVec.toNat_setWidth, BitVec.toNat_setWidth, Nat.mod_eq_of_lt h, Nat.mod_eq_of_lt x.isLt]

/-- The operands keep every field the operation uses; the others are zero. -/
theorem Op.fields_assemble (o : Op) (r : Request) (hop : r.op = o.selector) (hunused : o.unusedZero r = true) :
    (o.assemble r).fields = r := by
  obtain ⟨op, a, b, c⟩ := r
  have hlow8 (x : Word64) (h : x.toNat < 256) : (x.setWidth 8).setWidth 64 = x := setWidth_setWidth_of_lt x 8 h
  have hlow16 (x : Word64) (h : x.toNat < 65536) : (x.setWidth 16).setWidth 64 = x := setWidth_setWidth_of_lt x 16 h
  subst hop
  cases o <;> simp_all [Op.unusedZero, Op.assemble, Instr.fields, Op.selector]

theorem Instr.fields_wellFormed (i : Instr) : i.fields.op = i.op.selector ∧ i.op.unusedZero i.fields = true := by
  cases i with
  | setGate v h attr => exact Laws.EncodeWellFormed.setGate v h attr
  | idtInit => exact Laws.EncodeWellFormed.idtInit
  | picRemap o1 o2 => exact Laws.EncodeWellFormed.picRemap o1 o2
  | picEoi line => exact Laws.EncodeWellFormed.picEoi line
  | handle v => exact Laws.EncodeWellFormed.handle v
  | tick => exact Laws.EncodeWellFormed.tick
  | advance => exact Laws.EncodeWellFormed.advance
  | schedule cb d => exact Laws.EncodeWellFormed.schedule cb d
  | sleep ms => exact Laws.EncodeWellFormed.sleep ms
  | uptime => exact Laws.EncodeWellFormed.uptime
  | format ms => exact Laws.EncodeWellFormed.format ms
  | kbdIntake => exact Laws.EncodeWellFormed.kbdIntake
  | kbdDecode b => exact Laws.EncodeWellFormed.kbdDecode b
  | kbdLedWrite => exact Laws.EncodeWellFormed.kbdLedWrite
  | rbPush e => exact Laws.EncodeWellFormed.rbPush e
  | rbPop => exact Laws.EncodeWellFormed.rbPop

/-! ### The decoder, one equation per answer (R130 to R132) -/

theorem decode_of_no_selector {w : RequestWord} (hop : Op.ofSelector (Request.ofWord w).op = none) :
    decode w = .unknownOp := by
  simp [decode, hop]

theorem decode_of_unused_zero {w : RequestWord} {o : Op} (hop : Op.ofSelector (Request.ofWord w).op = some o)
    (hunused : o.unusedZero (Request.ofWord w) = true) : decode w = .ok (o.assemble (Request.ofWord w)) := by
  simp only [decode, hop]
  exact if_pos ((and_mustBeZero_eq_zero_iff w o).2 hunused)

theorem decode_of_unused_nonzero {w : RequestWord} {o : Op} (hop : Op.ofSelector (Request.ofWord w).op = some o)
    (hunused : o.unusedZero (Request.ofWord w) = false) : decode w = .nonzeroUnused o := by
  simp only [decode, hop]
  exact if_neg fun hmask => by simp [(and_mustBeZero_eq_zero_iff w o).1 hmask] at hunused

theorem decode_eq_unknownOp_iff (w : RequestWord) :
    decode w = .unknownOp ↔ Op.ofSelector (Request.ofWord w).op = none := by
  refine ⟨fun h => ?_, decode_of_no_selector⟩
  cases hop : Op.ofSelector (Request.ofWord w).op with
  | none => rfl
  | some o =>
    cases hunused : o.unusedZero (Request.ofWord w) with
    | true => rw [decode_of_unused_zero hop hunused] at h; cases h
    | false => rw [decode_of_unused_nonzero hop hunused] at h; cases h

/-- What decodes to a request has that request's selector and operands, and its unused fields are zero. -/
theorem decode_eq_ok_iff (w : RequestWord) (i : Instr) : decode w = .ok i ↔ Request.ofWord w = i.fields := by
  constructor
  · intro h
    cases hop : Op.ofSelector (Request.ofWord w).op with
    | none => rw [decode_of_no_selector hop] at h; cases h
    | some o =>
      cases hunused : o.unusedZero (Request.ofWord w) with
      | false => rw [decode_of_unused_nonzero hop hunused] at h; cases h
      | true =>
        rw [decode_of_unused_zero hop hunused] at h
        cases h
        exact (Op.fields_assemble o _ ((Op.ofSelector_eq_some_iff _ _).1 hop) hunused).symm
  · intro h
    obtain ⟨hop, hunused⟩ := i.fields_wellFormed
    rw [decode_of_unused_zero (o := i.op) (by rw [h]; exact (Op.ofSelector_eq_some_iff _ _).2 hop) (by rwa [h]), h,
      i.assemble_fields]

theorem decode_eq_ok_iff_encode (w : RequestWord) (i : Instr) : decode w = .ok i ↔ encode i = w := by
  rw [decode_eq_ok_iff, encode]
  constructor
  · intro h
    rw [← h, Request.toWord_ofWord]
  · rintro rfl
    exact Request.ofWord_toWord _

@[simp] theorem decode_encode (i : Instr) : decode (encode i) = .ok i := (decode_eq_ok_iff_encode _ i).2 rfl

/-! ### The obligations about the codec -/

/-- Settles O2: the fields of a request's record are those the decoder reads, its selector names its operation, and its
unused fields are zero. -/
theorem decodeEncodeRoundTrip : Obligations.DecodeEncodeRoundTrip := by
  unfold Obligations.DecodeEncodeRoundTrip
  exact decode_encode

/-- Settles O3: a record that decodes has the fields of the request it decodes to. -/
theorem encodeDecodedRecord : Obligations.EncodeDecodedRecord := by
  unfold Obligations.EncodeDecodedRecord
  exact fun w i => (decode_eq_ok_iff_encode w i).1

/-- Settles O4: each record is the encoding of its request. -/
theorem decodeSampleRecords : Obligations.DecodeSampleRecords := by
  unfold Obligations.DecodeSampleRecords
  have read {w : RequestWord} {i : Instr} (h : encode i = w) : decode w = .ok i := (decode_eq_ok_iff_encode w i).2 h
  exact ⟨read (by decide), read (by decide), read (by decide), read (by decide)⟩

end Sys2Proof
end

section
/-! PROOFS. Requests at a step (R130, R131, R343, R344): what a step does with the next request, and what a refused one
leaves as it is. -/

namespace Sys2Proof.Machine

open Sys2Proof

/-! ### The next request -/

/-- Main context, idle, takes the next request. -/
theorem step_request {s : State} {c : Context} {w : RequestWord} {during : List (List Stimulus)} {rest : List Input}
    (hwf : s.cfg.wellFormed = true) (hfaults : s.faults = []) (hhang : s.hang = none) (hmain : s.main = .idle)
    (hin : s.inputs = .request c w during :: rest) : step s = runRequest c w during { s with inputs := rest } := by
  rw [step_of_faults_nil hwf hfaults]
  simp [runStep, hhang, hin, hmain]

theorem State.Ready.step_request {s : State} (hs : s.Ready) (hmain : s.main = .idle) {c : Context} {w : RequestWord}
    {during : List (List Stimulus)} {rest : List Input} (hin : s.inputs = .request c w during :: rest) :
    step s = runRequest c w during { s with inputs := rest } := by
  obtain ⟨hwf, ⟨hfaults, hhang, -, -⟩, -⟩ := hs
  exact Machine.step_request hwf hfaults hhang hmain hin

/-- Settles O1: the step takes the request, and the decoder's answer selects the arm that runs `exec`. -/
theorem stepRunsDecodedRequest : Obligations.StepRunsDecodedRequest := by
  unfold Obligations.StepRunsDecodedRequest
  intro s t c i w during rest hwf hfaults hhang hmain hin hdecode hexec
  rw [step_request hwf hfaults hhang hmain hin]
  simp [runRequest, hdecode, hexec]

/-! ### A refused record -/

/-- A record that is refused as it is read changes nothing but the mark and its reason, and its stimuli land next. -/
theorem finish_refused {s : State} (hs : s.Ready) (c : Context) (during : List (List Stimulus)) (rest : List Input)
    (r : Refuse) :
    ({ s with inputs := rest } : State).finish
        ((({ s with inputs := rest } : State).begin c none during).refuse r) =
      { s with inputs := asInputs during ++ rest, refused := true, refusals := r :: s.refusals } := by
  obtain ⟨-, hquiet, hctx, hrunning, hpassed⟩ := hs
  have hlive : ((({ s with inputs := rest } : State).begin c none during).refuse r).live = true := hquiet.live_eq
  obtain ⟨-, -, -, hscript⟩ := hquiet
  rw [State.finish_live _ _ hlive]
  simp [State.refuse, State.begin, hctx, hrunning, hpassed, hscript]

theorem step_refused_of_unknownOp {s : State} (hs : s.Ready) (hmain : s.main = .idle) {c : Context} {w : RequestWord}
    {during : List (List Stimulus)} {rest : List Input} (hin : s.inputs = .request c w during :: rest)
    (hdecode : decode w = .unknownOp) :
    step s = .next
      { s with inputs := asInputs during ++ rest, refused := true, refusals := .unknownOp :: s.refusals } := by
  rw [hs.step_request hmain hin, ← finish_refused hs c]
  simp only [runRequest, hdecode]

/-- The context is checked before the unused fields (R344). -/
theorem step_refused_of_nonzeroUnused {s : State} (hs : s.Ready) (hmain : s.main = .idle) {c : Context}
    {w : RequestWord} {o : Op} {during : List (List Stimulus)} {rest : List Input}
    (hin : s.inputs = .request c w during :: rest) (hdecode : decode w = .nonzeroUnused o) :
    step s = .next
      { s with
        inputs := asInputs during ++ rest
        refused := true
        refusals := (if opAdmits o c then .nonzeroUnused else contextRefusal c) :: s.refusals } := by
  rw [hs.step_request hmain hin, ← finish_refused hs c]
  simp only [runRequest, hdecode]

/-- Settles O5: the decoder answers `unknownOp` exactly where the selector byte is in no row of R131. -/
theorem unknownSelectorRefused : Obligations.UnknownSelectorRefused := by
  unfold Obligations.UnknownSelectorRefused
  have illegal (w : RequestWord) :
      decode w = .unknownOp ↔ (w.extractLsb' 0 8 = 0x00 ∨ 0x11 ≤ (w.extractLsb' 0 8).toNat) :=
    (decode_eq_unknownOp_iff w).trans (Op.ofSelector_eq_none_iff _)
  exact ⟨illegal, fun s c w during rest hs hmain hin hop => step_refused_of_unknownOp hs hmain hin ((illegal w).2 hop)⟩

/-- Settles O6: such a record decodes to `nonzeroUnused`, which the context's check precedes. -/
theorem nonzeroUnusedRefused : Obligations.NonzeroUnusedRefused := by
  unfold Obligations.NonzeroUnusedRefused
  intro s c w o during rest hs hmain hin hop hunused
  exact step_refused_of_nonzeroUnused hs hmain hin (decode_of_unused_nonzero hop hunused)

end Sys2Proof.Machine
end

section
/-! PROOFS. Requests that their context may not issue (R131, R229): refused by `exec`, and, one after the other, in a
callback that a scan of the timeout table invokes (R226, R228). -/

namespace Sys2Proof.Machine

open Sys2Proof

/-! ### Any request -/

/-- A request outside its row's contexts is refused, whichever it is. -/
theorem exec_refused {i : Instr} {s : State} (h : opAdmits i.op s.ctx = false) :
    exec i s = .next (s.refuse (contextRefusal s.ctx)) := by
  cases i <;> exact admitted_refused s _ _ h

/-- The complement of the contexts column of R131. -/
theorem opAdmits_eq_false {o : Op} {c : Context}
    (h : c = .main ∧ o ∈ [Op.picEoi, .handle, .tick, .advance, .kbdIntake, .kbdDecode, .kbdLedWrite, .rbPush] ∨
      c = .interrupt ∧ o ∈ [Op.idtInit, .picRemap, .handle, .schedule, .rbPop] ∨
      c = .callback ∧ o ∉ [Op.schedule, .uptime, .format] ∨ c = .environment ∧ o ≠ .handle) :
    opAdmits o c = false := by
  have main : ∀ o ∈ [Op.picEoi, .handle, .tick, .advance, .kbdIntake, .kbdDecode, .kbdLedWrite, .rbPush],
      opAdmits o .main = false := by decide
  have interrupt : ∀ o ∈ [Op.idtInit, .picRemap, .handle, .schedule, .rbPop], opAdmits o .interrupt = false := by decide
  have callback : ∀ o ∈ Op.all, o ∉ [Op.schedule, .uptime, .format] → opAdmits o .callback = false := by decide
  have environment : ∀ o ∈ Op.all, o ≠ .handle → opAdmits o .environment = false := by decide
  rcases h with ⟨rfl, ho⟩ | ⟨rfl, ho⟩ | ⟨rfl, ho⟩ | ⟨rfl, ho⟩
  · exact main o ho
  · exact interrupt o ho
  · exact callback o o.mem_all ho
  · exact environment o o.mem_all ho

/-! ### The requests of a callback -/

theorem State.Quiet.script_eq {s : State} (h : s.Quiet) : s.script = [] := by
  obtain ⟨-, -, -, hscript⟩ := h
  exact hscript

/-- Going on past a boundary of interrupt context at which nothing waits. -/
theorem quiet_envI_andThen (s : State) (k : State → State) (h : s.Quiet) : (envI s).andThen k = k s := by
  rw [envI_nil s h.script_eq, quiet_andThen s k h]

/-- A callback's request for any operation but SCHEDULE, UPTIME and FORMAT is refused (R229). -/
theorem callbackRequest_refused {i : Instr} (h : i.op ∉ [Op.schedule, .uptime, .format]) (s : State) :
    callbackRequest (encode i) s = s.refuse .callbackEffect := by
  unfold callbackRequest
  rw [decode_encode]
  cases i with
  | schedule cb d => simp [Instr.op] at h
  | uptime => simp [Instr.op] at h
  | format ms => simp [Instr.op] at h
  | _ => rfl

/-- Each of a callback's refused requests adds its reason, and the callback goes on. -/
theorem callbackRequests_refused (rs : List Instr) (hrs : ∀ r ∈ rs, r.op ∉ [Op.schedule, .uptime, .format]) (s : State)
    (hs : s.Quiet) :
    callbackRequests (rs.map encode) s =
      { s with
        refused := s.refused || !rs.isEmpty
        refusals := List.replicate rs.length .callbackEffect ++ s.refusals } := by
  induction rs generalizing s with
  | nil => simp [callbackRequests]
  | cons r rs ih =>
    have hquiet : (s.refuse .callbackEffect).Quiet := hs
    rw [List.map_cons, callbackRequests, callbackRequest_refused (hrs r (by simp)), quiet_andThen _ _ hquiet,
      quiet_envI_andThen _ _ hquiet, ih (fun r' h => hrs r' (by simp [h])) _ hquiet]
    simp [State.refuse, List.replicate_succ']

/-- The state in which the requests of the invoked callback `cb` run (R228). -/
def State.calling (s : State) (cb : CallbackId) : State :=
  { s with history := .invoke cb :: s.history, ctx := .callback, freeCount := s.freeCount + 1 }

/-- A callback that a quiet run invokes and that returns: its requests run in the callback's context, and the caller goes
on where they leave the run live (R228). -/
theorem invokeOp_of_quiet {cb : CallbackId} {text : CallbackText} {s : State} (hs : s.Quiet)
    (hcb : s.cbs.lookup cb = some text) (hreturns : text.returns = true)
    (hlive : (callbackRequests text.requests (s.calling cb)).live = true) :
    invokeOp cb s = { callbackRequests text.requests (s.calling cb) with ctx := s.ctx } := by
  have htext : callbackText s.cbs cb s.freeCount = text := by simp [callbackText, hcb]
  have hquiet : (s.calling cb).Quiet := hs
  calc invokeOp cb s
      = (envI (s.calling cb)).andThen fun u => (callbackRequests text.requests u).andThen fun u =>
          if text.returns then { u with ctx := s.ctx } else { u with hang := some (.callback cb) } := by
        rw [← htext]; rfl
    _ = { callbackRequests text.requests (s.calling cb) with ctx := s.ctx } := by
        rw [quiet_envI_andThen _ _ hquiet, State.andThen_live _ _ hlive, if_pos hreturns]

/-- Such a callback that issues only requests its context may not issue. -/
theorem invokeOp_refused {cb : CallbackId} (rs : List Instr) (hrs : ∀ r ∈ rs, r.op ∉ [Op.schedule, .uptime, .format])
    {s : State} (hs : s.Quiet) (hcb : s.cbs.lookup cb = some { requests := rs.map encode, returns := true }) :
    invokeOp cb s =
      { s with
        history := .invoke cb :: s.history
        freeCount := s.freeCount + 1
        refused := s.refused || !rs.isEmpty
        refusals := List.replicate rs.length .callbackEffect ++ s.refusals } := by
  have hrequests := callbackRequests_refused rs hrs (s.calling cb) hs
  rw [invokeOp_of_quiet hs hcb rfl (by rw [hrequests]; exact hs.live_eq), hrequests]
  rfl

/-! ### A scan with one due entry (R226) -/

theorem State.fires_eq_due (s : State) (i : Fin 16) : s.fires i = due s.tmo[i] s.ticks := rfl

/-- A quiet scan passes entries that do not fire. -/
theorem advanceSlots_append_of_not_fires (is js : List (Fin 16)) {s : State} (hs : s.Quiet)
    (his : ∀ i ∈ is, s.fires i = false) : advanceSlots (is ++ js) s = advanceSlots js s := by
  induction is with
  | nil => rfl
  | cons i is ih =>
    rw [List.cons_append, advanceSlots, his i (by simp)]
    simp only [Bool.false_eq_true, if_false]
    rw [quiet_andThen _ _ hs, quiet_envI_andThen _ _ hs]
    exact ih fun j hj => his j (by simp [hj])

theorem advanceSlots_of_not_fires (is : List (Fin 16)) {s : State} (hs : s.Quiet)
    (his : ∀ i ∈ is, s.fires i = false) : advanceSlots is s = s := by
  simpa [advanceSlots] using advanceSlots_append_of_not_fires is [] hs his

theorem mem_slots (i : Fin 16) : i ∈ slots := by
  revert i
  decide

/-- A quiet scan that meets one due entry, whose callback leaves the run quiet and no entry due. -/
theorem advanceOp_of_one_fires {s t : State} {i : Fin 16} (hs : s.Quiet) (hfires : ∀ k, s.fires k = true ↔ k = i)
    (hinvoke : invokeOp s.tmo[i].cb (s.setSlot i { s.tmo[i] with active := false }) = t) (ht : t.Quiet)
    (hdone : ∀ k, t.fires k = false) : advanceOp s = t := by
  obtain ⟨pre, post, hslots, hpre⟩ := List.eq_append_cons_of_mem (mem_slots i)
  have hquiet : (s.setSlot i { s.tmo[i] with active := false }).Quiet := hs
  have hfire : fireSlot i s = t := by
    rw [fireSlot, quiet_envI_andThen _ _ hquiet, hinvoke]
  have hskip (k : Fin 16) (hk : k ∈ pre) : s.fires k = false :=
    Bool.eq_false_iff.2 fun h => hpre ((hfires k).1 h ▸ hk)
  rw [advanceOp, hslots, advanceSlots_append_of_not_fires _ _ hs hskip, advanceSlots, if_pos ((hfires i).2 rfl),
    quiet_envI_andThen _ _ hs, hfire, quiet_andThen _ _ ht, quiet_envI_andThen _ _ ht]
  exact advanceSlots_of_not_fires post ht fun k _ => hdone k

/-- Settles O7: `exec` refuses by the contexts column, and so does the callback that the one due entry invokes. -/
theorem wrongContextRefused : Obligations.WrongContextRefused := by
  unfold Obligations.WrongContextRefused
  refine ⟨fun i s h => exec_refused (opAdmits_eq_false h), ?_⟩
  intro i rs s hs hctx hdue hcb hrs
  have hadmits : opAdmits .advance s.ctx = true := by rw [hctx]; rfl
  rw [show exec .advance s = s.admitted .advance advanceOp from rfl, admitted_next _ _ _ hadmits]
  have hquiet : (s.setSlot i { s.tmo[i] with active := false }).Quiet := hs
  refine congrArg _ (advanceOp_of_one_fires hs hdue (invokeOp_refused rs hrs hquiet hcb) hs fun k => ?_)
  rw [State.fires_eq_due]
  by_cases hk : k = i
  · subst hk
    simp [due]
  · have hother : due s.tmo[k] s.ticks = false := Bool.eq_false_iff.2 (mt (hdue k).1 hk)
    have hne : i.val ≠ k.val := fun h => hk (Fin.ext h.symm)
    simpa [hne] using hother

end Sys2Proof.Machine
end

section
/-! PROOFS. The descriptor SET_GATE writes, read back (R125, R126, R160): its seven writes are one run of bytes, and each
of its fields is a part of that run. -/

namespace Sys2Proof.Machine

open Sys2Proof

/-! ### Runs of bytes (R11, R84) -/

theorem leValue_leBytes (n v : Nat) : leValue (leBytes n v) = v % 256 ^ n := by
  induction n generalizing v with
  | zero => simp [leBytes, leValue, Nat.mod_one]
  | succ n ih =>
    rw [leBytes, leValue, ih, BitVec.toNat_ofNat, pow_succ' 256, Nat.mod_mul]

theorem byteAt_add (a : Word64) (j k : Nat) : byteAt (a + BitVec.ofNat 64 j) k = byteAt a (j + k) := by
  rw [byteAt, byteAt, BitVec.add_assoc, BitVec.ofNat_add]

@[simp] theorem readBytes_length (m : Memory) (a : Word64) (n : Nat) : (readBytes m a n).length = n := by
  induction n generalizing a with
  | zero => rfl
  | succ n ih => simp [readBytes, ih]

theorem readBytes_getElem (m : Memory) (a : Word64) (n k : Nat) (hk : k < (readBytes m a n).length) :
    (readBytes m a n)[k] = readByte m (byteAt a k) := by
  induction n generalizing a k with
  | zero => simp at hk
  | succ n ih =>
    cases k with
    | zero => simp [readBytes, byteAt_zero]
    | succ k => simpa [readBytes, ih] using congrArg (readByte m) (byteAt_succ a k)

theorem writeBytes_append (m : Memory) (a : Word64) (bs cs : List Byte) :
    writeBytes m a (bs ++ cs) = writeBytes (writeBytes m a bs) (a + BitVec.ofNat 64 bs.length) cs := by
  induction bs generalizing m a with
  | nil => simp [writeBytes]
  | cons b bs ih =>
    rw [List.cons_append, writeBytes, ih, writeBytes, List.length_cons, Nat.add_comm bs.length, BitVec.ofNat_add,
      ← BitVec.add_assoc]
    rfl

/-- A part of a run that was written, read back. -/
theorem readBytes_writeBytes (m : Memory) (a : Word64) (bs : List Byte) (k n : Nat) (hm : m.wf = true)
    (hlen : bs.length ≤ 2 ^ 64) (hkn : k + n ≤ bs.length) :
    readBytes (writeBytes m a bs) (a + BitVec.ofNat 64 k) n = (bs.drop k).take n := by
  apply List.ext_getElem
  · simp; omega
  · intro j hj _
    rw [readBytes_length] at hj
    rw [readBytes_getElem, byteAt_add, readByte_writeBytes_inside m a bs hm hlen (k + j) (by omega)]
    simp

/-! ### The descriptor (R111) -/

/-- The fields SET_GATE writes, in address order, as their bytes. -/
def gateBytes (h : Word64) (attr : Byte) : List Byte :=
  leBytes 2 (offsetLo h).toNat ++ (leBytes 2 kernelCs.toNat ++ (leBytes 1 istValue.toNat ++ (leBytes 1 attr.toNat ++
    (leBytes 2 (offsetMid h).toNat ++ (leBytes 4 (offsetHi h).toNat ++ leBytes 4 0)))))

theorem writeGate_eq_writeBytes (m : Memory) (d h : Word64) (attr : Byte) :
    writeGate m d h attr = writeBytes m d (gateBytes h attr) := by
  simp only [writeGate, memWrite, gateBytes, writeBytes_append, leBytes_length, BitVec.add_assoc]
  rfl

/-- A field of a written descriptor, read back: the value whose bytes stand at its place. -/
theorem memRead_writeGate {m : Memory} {d h : Word64} {attr : Byte} {w : Nat} (hm : m.wf = true) (k n : Nat)
    (x : BitVec w) (hw : 256 ^ n = 2 ^ w) (hkn : k + n ≤ 16)
    (hfield : ((gateBytes h attr).drop k).take n = leBytes n x.toNat) :
    BitVec.ofNat w (memRead (writeGate m d h attr) (d + BitVec.ofNat 64 k) n) = x := by
  have hlen : (gateBytes h attr).length = 16 := by simp [gateBytes]
  rw [memRead, writeGate_eq_writeBytes, readBytes_writeBytes m d _ k n hm (by omega) (by omega), hfield, leValue_leBytes,
    hw, Nat.mod_eq_of_lt x.isLt, BitVec.ofNat_toNat, BitVec.setWidth_eq]

theorem readGate_writeGate (m : Memory) (d h : Word64) (attr : Byte) (hm : m.wf = true) :
    readGate (writeGate m d h attr) d =
      { offsetLo := offsetLo h, selector := kernelCs, ist := istValue, typeAttr := attr, offsetMid := offsetMid h
        offsetHi := offsetHi h, reserved := 0 } := by
  have hlo : BitVec.ofNat 16 (memRead (writeGate m d h attr) d 2) = offsetLo h := by
    simpa using memRead_writeGate (d := d) hm 0 2 (offsetLo h) (by decide) (by decide) rfl
  unfold readGate
  rw [Gate.mk.injEq]
  exact ⟨hlo,
    memRead_writeGate hm 2 2 kernelCs (by decide) (by decide) rfl,
    memRead_writeGate hm 4 1 istValue (by decide) (by decide) rfl,
    memRead_writeGate hm 5 1 attr (by decide) (by decide) rfl,
    memRead_writeGate hm 6 2 (offsetMid h) (by decide) (by decide) rfl,
    memRead_writeGate hm 8 4 (offsetHi h) (by decide) (by decide) rfl,
    memRead_writeGate hm 12 4 0 (by decide) (by decide) rfl⟩

/-- The three address fields are the handler's bits in their order (R125, R126). -/
theorem offsetHi_append_offsetMid_append_offsetLo (h : Word64) : offsetHi h ++ offsetMid h ++ offsetLo h = h := by
  calc h.extractLsb' 32 32 ++ h.extractLsb' 16 16 ++ h.extractLsb' 0 16
      = h.extractLsb' 0 64 := by
        rw [BitVec.extractLsb'_append_extractLsb'_eq_extractLsb' (show 32 = 16 + 16 from rfl),
          BitVec.extractLsb'_append_extractLsb'_eq_extractLsb' (show 16 = 0 + 16 from rfl)]
    _ = h := BitVec.extractLsb'_eq_self

/-- Going on past a boundary at which nothing waits. -/
theorem quiet_boundary_andThen (s : State) (k : State → State) (h : s.Quiet) : (boundary s).andThen k = k s := by
  rw [boundary_nil s h.script_eq, quiet_andThen s k h]

/-- An uninterrupted SET_GATE (R160). -/
theorem setGateOp_quiet (v : Byte) (h : Word64) (attr : Byte) {s : State} (hs : s.Quiet) :
    setGateOp v h attr s =
      { s with mem := writeGate s.mem (slotAddr s.cfg.idtBase v) h attr, gateBusy := none } := by
  have hbusy : ({ s with gateBusy := some v } : State).Quiet := hs
  have hgate :
      ({ s with gateBusy := some v, mem := writeGate s.mem (slotAddr s.cfg.idtBase v) h attr } : State).Quiet := by
    obtain ⟨hfaults, hhang, hredirect, hscript⟩ := hs
    exact ⟨hfaults, hhang, hredirect, hscript⟩
  rw [setGateOp, quiet_boundary_andThen _ _ hbusy, quiet_boundary_andThen _ _ hgate]

theorem exec_setGate_quiet (v : Byte) (h : Word64) (attr : Byte) {s : State} (hs : s.Quiet)
    (hctx : s.ctx = .main ∨ s.ctx = .interrupt) :
    exec (.setGate v h attr) s =
      .next { s with mem := writeGate s.mem (slotAddr s.cfg.idtBase v) h attr, gateBusy := none } := by
  have hadmits : opAdmits .setGate s.ctx = true := by rcases hctx with e | e <;> rw [e] <;> rfl
  rw [show exec (.setGate v h attr) s = s.admitted .setGate (setGateOp v h attr) from rfl, admitted_next _ _ _ hadmits,
    setGateOp_quiet v h attr hs]

/-- Settles O11: what is read back is the descriptor of the fields written, and its address fields are the handler. -/
theorem gateHandlerReassembles : Obligations.GateHandlerReassembles := by
  unfold Obligations.GateHandlerReassembles
  intro v h attr s hs hctx hm
  have hread := readGate_writeGate s.mem (slotAddr s.cfg.idtBase v) h attr hm
  refine ⟨_, exec_setGate_quiet v h attr hs hctx, ?_⟩
  rw [show s.cfg.idtBase + 16 * v.setWidth 64 = slotAddr s.cfg.idtBase v from rfl, hread]
  exact ⟨offsetHi_append_offsetMid_append_offsetLo h, rfl, rfl⟩

end Sys2Proof.Machine
end

section
/-! PROOFS. The checks that IDT_INIT and PIC_REMAP make before any effect (R161, R181, R344). -/

namespace Sys2Proof.Machine

open Sys2Proof

theorem exec_idtInit_of_main {s : State} (hctx : s.ctx = .main) : exec .idtInit s = .next (idtInitOp s) :=
  admitted_next s .idtInit idtInitOp (by rw [hctx]; rfl)

theorem exec_picRemap_of_main (o1 o2 : Byte) {s : State} (hctx : s.ctx = .main) :
    exec (.picRemap o1 o2) s = .next (picRemapOp o1 o2 s) :=
  admitted_next s .picRemap (picRemapOp o1 o2) (by rw [hctx]; rfl)

/-- The first fault of a run is the only one recorded. -/
theorem State.Quiet.raise_eq {s : State} (hs : s.Quiet) (f : Fault) : s.raise f = { s with faults := [f] } := by
  obtain ⟨hfaults, -, -, -⟩ := hs
  rw [State.raise, hfaults]

/-- Settles O13: the checks stand before the first step boundary, LiveInit first. -/
theorem initChecksInOrder : Obligations.InitChecksInOrder := by
  unfold Obligations.InitChecksInOrder
  intro o1 o2 s hs hctx
  rw [exec_idtInit_of_main hctx, exec_picRemap_of_main o1 o2 hctx, ← hs.raise_eq, ← hs.raise_eq]
  refine ⟨fun hifl => ?_, fun hifl => ?_, fun hifl hoffset => ?_⟩
  · rw [idtInitOp, if_pos hifl]
  · rw [picRemapOp, if_pos hifl]
  · rw [picRemapOp, if_neg (by simp [hifl]), if_pos hoffset]

end Sys2Proof.Machine
end

section
/-! PROOFS. The bytes SET_GATE writes: the fields of a word as their bytes, and with them the sixteen bytes of the
descriptor (R111, R160) and the ten of the pointer record (R115). -/

namespace Sys2Proof.Machine

open Sys2Proof

/-! ### The bytes of the descriptor and of the pointer record (R84, R111, R115) -/

/-- The bytes of a field of a word are those of the word from the field's first bit on. -/
theorem leBytes_extractLsb' {w : Nat} (x : BitVec w) (start n : Nat) :
    leBytes n (x.extractLsb' start (8 * n)).toNat = (List.range n).map fun k => x.extractLsb' (start + 8 * k) 8 := by
  induction n generalizing start with
  | zero => rfl
  | succ n ih =>
    have low : BitVec.ofNat 8 (x.extractLsb' start (8 * (n + 1))).toNat = x.extractLsb' start 8 := by
      apply BitVec.eq_of_toNat_eq
      rw [BitVec.toNat_ofNat, BitVec.extractLsb'_toNat, BitVec.extractLsb'_toNat,
        Nat.mod_mod_of_dvd _ (Nat.pow_dvd_pow 2 (by omega))]
    have high : (x.extractLsb' start (8 * (n + 1))).toNat / 256 = (x.extractLsb' (start + 8) (8 * n)).toNat := by
      rw [BitVec.extractLsb'_toNat, BitVec.extractLsb'_toNat, show 8 * (n + 1) = 8 + 8 * n by omega, Nat.pow_add,
        Nat.mod_mul_right_div_self, Nat.shiftRight_add, Nat.shiftRight_eq_div_pow _ 8]
    rw [leBytes, low, high, ih, List.range_succ_eq_map, List.map_cons, List.map_map]
    refine congrArg _ (List.map_congr_left fun k _ => ?_)
    rw [Function.comp_apply, Nat.mul_succ, Nat.add_assoc, Nat.add_comm 8]

/-- The fields SET_GATE writes are the sixteen bytes of R111. -/
theorem gateBytes_eq_descriptorBytes (h : Word64) (attr : Byte) : gateBytes h attr = descriptorBytes h attr := by
  have hattr : leBytes 1 attr.toNat = [attr] := by simp [leBytes]
  have hlo : leBytes 2 (offsetLo h).toNat = [h.extractLsb' 0 8, h.extractLsb' 8 8] := leBytes_extractLsb' h 0 2
  have hmid : leBytes 2 (offsetMid h).toNat = [h.extractLsb' 16 8, h.extractLsb' 24 8] := leBytes_extractLsb' h 16 2
  have hhi : leBytes 4 (offsetHi h).toNat =
      [h.extractLsb' 32 8, h.extractLsb' 40 8, h.extractLsb' 48 8, h.extractLsb' 56 8] := leBytes_extractLsb' h 32 4
  rw [gateBytes, hattr, hlo, hmid, hhi]
  rfl

theorem descriptorBytes_length (h : Word64) (attr : Byte) : (descriptorBytes h attr).length = 16 := rfl

theorem writeGate_eq_writeBytes_descriptor (m : Memory) (d h : Word64) (attr : Byte) :
    writeGate m d h attr = writeBytes m d (descriptorBytes h attr) := by
  rw [writeGate_eq_writeBytes, gateBytes_eq_descriptorBytes]

/-- A written descriptor, read back byte by byte. -/
theorem readByte_writeGate {m : Memory} (d h : Word64) (attr : Byte) (hm : m.wf = true) (k : Nat)
    (hk : k < (descriptorBytes h attr).length) :
    readByte (writeGate m d h attr) (byteAt d k) = (descriptorBytes h attr)[k] := by
  rw [writeGate_eq_writeBytes_descriptor, readByte_writeBytes_inside m d _ hm (by rw [descriptorBytes_length]; decide) k hk]

theorem leBytes_zero_getElem (n k : Nat) (hk : k < (leBytes n 0).length) : (leBytes n 0)[k] = 0 := by
  induction n generalizing k with
  | zero => simp at hk
  | succ n ih =>
    cases k with
    | zero => rfl
    | succ k => exact ih k (by simpa using hk)

/-- The two fields of the pointer record are the ten bytes of R115. -/
theorem pointerBytes_eq (base : Word64) : pointerBytes base = leBytes 2 idtLimit.toNat ++ leBytes 8 base.toNat := by
  have hbase : leBytes 8 base.toNat = (List.range 8).map fun k => base.extractLsb' (0 + 8 * k) 8 := by
    rw [← leBytes_extractLsb', BitVec.extractLsb'_eq_self]
  rw [hbase]
  rfl

theorem pointerBytes_length (base : Word64) : (pointerBytes base).length = 10 := rfl

theorem writePointer_eq_writeBytes (m : Memory) (c : Config) :
    writePointer m c = writeBytes m c.idtpAddr (pointerBytes c.idtBase) := by
  rw [pointerBytes_eq, writeBytes_append]
  rfl

/-! ### SET_GATE -/

/-- Settles O10: the slot's sixteen bytes are the written run, and the seven writes stay in them. -/
theorem setGateWritesDescriptor : Obligations.SetGateWritesDescriptor := by
  unfold Obligations.SetGateWritesDescriptor
  intro v h attr s hs hctx hm
  have hexec := exec_setGate_quiet v h attr hs hctx
  have hbytes := readByte_writeGate (slotAddr s.cfg.idtBase v) h attr hm
  have hframe := (writeGate_changesOnly s.mem (slotAddr s.cfg.idtBase v) h attr).outside hm
  generalize writeGate s.mem (slotAddr s.cfg.idtBase v) h attr = m at hexec hbytes hframe
  exact ⟨_, hexec, rfl, hbytes, hframe⟩

end Sys2Proof.Machine
end

section
/-! PROOFS. An uninterrupted IDT_INIT (R161 to R163): each slot is one run of bytes, apart from every other slot and from
the pointer record, and LoadIdt reads the record back. -/

namespace Sys2Proof.Machine

open Sys2Proof

/-! ### Slots (R33) -/

/-- A byte of a slot, counted from the table's base. -/
theorem byteAt_slotAddr (base : Word64) (v : Byte) (k : Nat) :
    byteAt (slotAddr base v) k = byteAt base (16 * v.toNat + k) := by
  have offset : slotAddr base v = base + BitVec.ofNat 64 (16 * v.toNat) := by
    unfold slotAddr
    bv_omega
  rw [offset, byteAt_add]

/-- Two slots that share an address are one slot. -/
theorem slot_eq_of_inRegion {base : Word64} {u v : Byte} {k : Nat} (hk : k < 16)
    (h : inRegion (slotAddr base u) 16 (byteAt (slotAddr base v) k)) : v = u := by
  obtain ⟨j, hj, e⟩ := h
  rw [byteAt_slotAddr, byteAt_slotAddr] at e
  have hv := v.isLt
  have hu := u.isLt
  have hsum := byteAt_inj base _ _ (by omega) (by omega) e
  exact BitVec.eq_of_toNat_eq (by omega)

theorem slot_inRegion_table (base : Word64) (v : Byte) {k : Nat} (hk : k < 16) :
    inRegion base 4096 (byteAt (slotAddr base v) k) :=
  ⟨16 * v.toNat + k, by omega, byteAt_slotAddr base v k⟩

/-- R80: no byte of a slot is a byte of the pointer record. -/
theorem slot_not_inRegion_pointer {c : Config} (hc : c.wellFormed = true) (v : Byte) {k : Nat} (hk : k < 16) :
    ¬ inRegion c.idtpAddr 10 (byteAt (slotAddr c.idtBase v) k) :=
  fun h => (wellFormed_iff_disjoint c).1 hc ⟨_, slot_inRegion_table c.idtBase v hk, h⟩

/-- The slots of the vectors `vs`, written in order: `content v` at slot `v`. -/
def writeSlots (base : Word64) (content : Nat → List Byte) (vs : List Nat) (m : Memory) : Memory :=
  vs.foldl (fun m v => writeBytes m (slotAddr base (BitVec.ofNat 8 v)) (content v)) m

theorem writeSlots_wf (base : Word64) (content : Nat → List Byte) (vs : List Nat) {m : Memory} (hm : m.wf = true) :
    (writeSlots base content vs m).wf = true := by
  induction vs generalizing m with
  | nil => exact hm
  | cons v vs ih => exact ih (writeBytes_wf m _ _ hm)

/-- One slot of sixteen bytes, read after it or another has been written. -/
theorem readByte_writeBytes_slot {m : Memory} (base : Word64) (u v : Byte) {bs : List Byte} {k : Nat} (hm : m.wf = true)
    (hbs : bs.length = 16) (hk : k < bs.length) :
    readByte (writeBytes m (slotAddr base u) bs) (byteAt (slotAddr base v) k) =
      if v = u then bs[k] else readByte m (byteAt (slotAddr base v) k) := by
  split
  next h => rw [h, readByte_writeBytes_inside m _ bs hm (by omega) k hk]
  next h =>
    rw [readByte_writeBytes_outside m _ bs _ hm]
    rw [hbs] at hk ⊢
    exact mt (slot_eq_of_inRegion hk) h

/-- A slot reads as its content where it has been written, and as before where it has not. -/
theorem readByte_writeSlots {content : Nat → List Byte} (base : Word64) (vs : List Nat) (v : Byte) {m : Memory} {k : Nat}
    (hm : m.wf = true) (hcontent : ∀ u, (content u).length = 16) (hvs : ∀ u ∈ vs, u < 256)
    (hk : k < (content v.toNat).length) :
    readByte (writeSlots base content vs m) (byteAt (slotAddr base v) k) =
      if v.toNat ∈ vs then (content v.toNat)[k] else readByte m (byteAt (slotAddr base v) k) := by
  induction vs generalizing m with
  | nil => rfl
  | cons u vs ih =>
    obtain ⟨hu, hvs⟩ := List.forall_mem_cons.1 hvs
    have hk' : k < (content u).length := by rwa [hcontent] at hk ⊢
    have heq : v = BitVec.ofNat 8 u ↔ v.toNat = u := by bv_omega
    rw [writeSlots, List.foldl_cons, ← writeSlots, ih (writeBytes_wf m _ _ hm) hvs,
      readByte_writeBytes_slot base _ v hm (hcontent u) hk']
    by_cases hmem : v.toNat ∈ vs
    · simp [hmem]
    · by_cases hv : v.toNat = u
      · subst hv; simp
      · simp [hmem, hv, heq]

/-! ### The loops of IDT_INIT (R161 steps 1 to 3) -/

/-- Writes to memory and to `gate_busy` wake nothing. -/
theorem State.Quiet.with_mem_gateBusy {s : State} (hs : s.Quiet) (m : Memory) (b : Option Byte) :
    ({ s with mem := m, gateBusy := b } : State).Quiet := hs

theorem zeroSlots_quiet (vs : List Nat) {s : State} (hs : s.Quiet) :
    zeroSlots vs s = { s with mem := writeSlots s.cfg.idtBase (fun _ => leBytes 16 0) vs s.mem } := by
  induction vs generalizing s with
  | nil => rfl
  | cons v vs ih =>
    have hslot := hs.with_mem_gateBusy (memWrite s.mem (slotAddr s.cfg.idtBase (BitVec.ofNat 8 v)) 16 0) s.gateBusy
    rw [zeroSlots, quiet_boundary_andThen _ _ hslot, ih hslot]
    rfl

/-- R161 steps 2 and 3: the descriptor IDT_INIT installs for a vector. -/
def stubGate (c : Config) (v : Nat) : List Byte := descriptorBytes (stubAddr c v) gateAttrInt

theorem stubAddr_of_lt (c : Config) {v : Nat} (hv : v < 48) : stubAddr c v = c.stub[v] := by
  simp [stubAddr, hv]

theorem installStubs_quiet (vs : List Nat) {s : State} (hs : s.Quiet) :
    installStubs vs s =
      { s with
        mem := writeSlots s.cfg.idtBase (stubGate s.cfg) vs s.mem
        gateBusy := if vs.isEmpty then s.gateBusy else none } := by
  induction vs generalizing s with
  | nil => rfl
  | cons v vs ih =>
    have hgate := hs.with_mem_gateBusy
      (writeGate s.mem (slotAddr s.cfg.idtBase (BitVec.ofNat 8 v)) (stubAddr s.cfg v) gateAttrInt) none
    rw [installStubs, setGateOp_quiet _ _ _ hs, quiet_andThen _ _ hgate, quiet_boundary_andThen _ _ hgate, ih hgate,
      writeGate_eq_writeBytes_descriptor]
    simp [writeSlots, stubGate]

/-! ### Memory after IDT_INIT -/

/-- The table after IDT_INIT: every slot zeroed, then the gates of the 48 stubs. -/
def idtTable (c : Config) (m : Memory) : Memory :=
  writeSlots c.idtBase (stubGate c) (List.range 48) (writeSlots c.idtBase (fun _ => leBytes 16 0) (List.range 256) m)

/-- The two runs of gates, for the exceptions and for the hardware lines, are one (R161 steps 2 and 3). -/
theorem idtTable_eq_two_runs (c : Config) (m : Memory) :
    idtTable c m = writeSlots c.idtBase (stubGate c) (List.range' 32 16) (writeSlots c.idtBase (stubGate c) (List.range 32)
      (writeSlots c.idtBase (fun _ => leBytes 16 0) (List.range 256) m)) := by
  rw [idtTable, show List.range 48 = List.range 32 ++ List.range' 32 16 from rfl]
  exact List.foldl_append

theorem idtTable_wf (c : Config) {m : Memory} (hm : m.wf = true) : (idtTable c m).wf = true :=
  writeSlots_wf _ _ _ (writeSlots_wf _ _ _ hm)

/-- Slots 0 to 47 hold the gates of their stubs, the others zeros. -/
theorem readByte_idtTable (c : Config) {m : Memory} (hm : m.wf = true) (v : Byte) {k : Nat}
    (hk : k < (stubGate c v.toNat).length) :
    readByte (idtTable c m) (byteAt (slotAddr c.idtBase v) k) = if v.toNat < 48 then (stubGate c v.toNat)[k] else 0 := by
  have hzero : readByte (writeSlots c.idtBase (fun _ => leBytes 16 0) (List.range 256) m)
      (byteAt (slotAddr c.idtBase v) k) = 0 := by
    have hk16 : k < (leBytes 16 0).length := hk
    rw [readByte_writeSlots _ _ v hm (fun _ => leBytes_length 16 0) (fun u => List.mem_range.1) hk16,
      if_pos (List.mem_range.2 v.isLt), leBytes_zero_getElem]
  rw [idtTable, readByte_writeSlots _ _ v (writeSlots_wf _ _ _ hm) (fun _ => rfl) (by simp; omega) hk, hzero]
  simp

/-- Memory after IDT_INIT: the table, then the pointer record. -/
def idtMemory (c : Config) (m : Memory) : Memory := writePointer (idtTable c m) c

/-- The pointer record is written last and leaves every slot as it is (R80). -/
theorem readByte_idtMemory_slot {c : Config} {m : Memory} (hc : c.wellFormed = true) (hm : m.wf = true) (v : Byte) {k : Nat}
    (hk : k < (stubGate c v.toNat).length) :
    readByte (idtMemory c m) (byteAt (slotAddr c.idtBase v) k) = if v.toNat < 48 then (stubGate c v.toNat)[k] else 0 := by
  rw [idtMemory, (writePointer_changesOnly _ c).outside (idtTable_wf c hm) _ (slot_not_inRegion_pointer hc v hk),
    readByte_idtTable c hm v hk]

theorem readByte_idtMemory_stub {c : Config} {m : Memory} (hc : c.wellFormed = true) (hm : m.wf = true) (v : Byte)
    (hv : v.toNat < 48) (k : Nat) (hk : k < (descriptorBytes (c.stub[v.toNat]) 0x8E).length) :
    readByte (idtMemory c m) (byteAt (slotAddr c.idtBase v) k) = (descriptorBytes (c.stub[v.toNat]) 0x8E)[k] := by
  rw [readByte_idtMemory_slot hc hm v hk, if_pos hv]
  simp only [stubGate, stubAddr_of_lt c hv]

theorem readByte_idtMemory_zero {c : Config} {m : Memory} (hc : c.wellFormed = true) (hm : m.wf = true) (v : Byte) (k : Nat)
    (hv : 48 ≤ v.toNat) (hk : k < 16) : readByte (idtMemory c m) (byteAt (slotAddr c.idtBase v) k) = 0 := by
  rw [readByte_idtMemory_slot hc hm v hk, if_neg (by omega)]

theorem readByte_idtMemory_pointer {m : Memory} (c : Config) (hm : m.wf = true) (k : Nat)
    (hk : k < (pointerBytes c.idtBase).length) :
    readByte (idtMemory c m) (byteAt c.idtpAddr k) = (pointerBytes c.idtBase)[k] := by
  rw [idtMemory, writePointer_eq_writeBytes,
    readByte_writeBytes_inside _ _ _ (idtTable_wf c hm) (by rw [pointerBytes_length]; decide) k hk]

/-! ### The table register (R162, R163) -/

/-- A part of the pointer record just written, read back. -/
theorem memRead_writePointer {m : Memory} (c : Config) (hm : m.wf = true) (k n : Nat) (hkn : k + n ≤ 10) :
    memRead (writePointer m c) (c.idtpAddr + BitVec.ofNat 64 k) n = leValue (((pointerBytes c.idtBase).drop k).take n) := by
  rw [memRead, writePointer_eq_writeBytes,
    readBytes_writeBytes _ _ (pointerBytes c.idtBase) k n hm (by rw [pointerBytes_length]; decide) hkn]

/-- LoadIdt takes the limit and the base from the pointer record just written. -/
theorem loadIdt_writePointer (s : State) (hm : s.mem.wf = true) :
    ({ s with mem := writePointer s.mem s.cfg } : State).loadIdt s.cfg.idtpAddr =
      { s with
        mem := writePointer s.mem s.cfg
        cpu := { s.cpu with idtr := { limit := idtLimit, base := s.cfg.idtBase }, idtLoaded := true } } := by
  have hlimit : memRead (writePointer s.mem s.cfg) s.cfg.idtpAddr 2 = idtLimit.toNat := by
    rw [← BitVec.add_zero s.cfg.idtpAddr]
    exact (memRead_writePointer s.cfg hm 0 2 (by decide)).trans rfl
  have hbase : memRead (writePointer s.mem s.cfg) (s.cfg.idtpAddr + 2) 8 = s.cfg.idtBase.toNat := by
    refine (memRead_writePointer s.cfg hm 2 8 (by decide)).trans ?_
    rw [pointerBytes_eq, List.drop_left' (by rfl), List.take_of_length_le (by simp), leValue_leBytes]
    exact Nat.mod_eq_of_lt s.cfg.idtBase.isLt
  simp only [State.loadIdt, hlimit, hbase, BitVec.ofNat_toNat, BitVec.setWidth_eq]

/-- An uninterrupted IDT_INIT (R161). -/
theorem idtInitOp_quiet {s : State} (hs : s.Quiet) (hifl : s.cpu.ifl = false) (hm : s.mem.wf = true) :
    idtInitOp s =
      { s with
        mem := idtMemory s.cfg s.mem
        gateBusy := none
        cpu := { s.cpu with idtr := { limit := idtLimit, base := s.cfg.idtBase }, idtLoaded := true } } := by
  have quiet (m : Memory) (b : Option Byte) := hs.with_mem_gateBusy m b
  rw [idtInitOp, if_neg (by simp [hifl]), quiet_boundary_andThen _ _ hs, zeroSlots_quiet _ hs,
    quiet_andThen _ _ (quiet _ _), installStubs_quiet _ (quiet _ _), quiet_andThen _ _ (quiet _ _),
    installStubs_quiet _ (quiet _ _), quiet_andThen _ _ (quiet _ _), quiet_boundary_andThen _ _ (quiet _ _)]
  dsimp only
  rw [idtMemory, ← idtTable_eq_two_runs]
  have hwf := idtTable_wf s.cfg hm
  generalize idtTable s.cfg s.mem = table at hwf ⊢
  exact loadIdt_writePointer { s with mem := table, gateBusy := none } hwf

/-- Settles O12: the slots and the pointer record read as written, and outside both O59's frame applies. (Memory is
generalized so that the state's frame is compared without unfolding it.) -/
theorem idtInitBuildsTable : Obligations.IdtInitBuildsTable := by
  unfold Obligations.IdtInitBuildsTable
  intro s hs hctx hifl hm hc
  have hexec : exec .idtInit s = .next _ := (exec_idtInit_of_main hctx).trans (congrArg _ (idtInitOp_quiet hs hifl hm))
  have hgates := readByte_idtMemory_stub hc hm
  have hzeros := readByte_idtMemory_zero hc hm
  have hpointer := readByte_idtMemory_pointer s.cfg hm
  have hframe := writesStayInTableAndPointer _ s _ hm hexec
  generalize idtMemory s.cfg s.mem = m at hexec hgates hzeros hpointer hframe
  exact ⟨_, hexec, rfl, hgates, hzeros, hpointer, hframe⟩

end Sys2Proof.Machine
end

section
/-! PROOFS. An uninterrupted PIC_REMAP (R181, R356): its twelve port accesses in order, and what the ten writes make of each
controller. -/

namespace Sys2Proof.Machine

open Sys2Proof

/-! ### Port accesses (R12) -/

/-- What a port write makes of a device wakes nothing. -/
theorem State.Quiet.portWrite {s : State} (hs : s.Quiet) (p : Port) (x : Byte) : (s.portWrite p x).Quiet := by
  unfold State.portWrite
  repeat' split
  all_goals exact hs

/-- A read of the primary mask (R356). -/
theorem portRead_pic1Data (s : State) :
    s.portRead pic1Data = { s with history := .portRead pic1Data s.pic1.imr :: s.history } := rfl

/-- A read of the secondary mask (R356). -/
theorem portRead_pic2Data (s : State) :
    s.portRead pic2Data = { s with history := .portRead pic2Data s.pic2.imr :: s.history } := rfl

/-! ### The ten writes (R181 steps 3 to 12) -/

/-- A controller after the whole initialization sequence (R356): offset `o`, ICW3 `cascade`, mask `m`. -/
def programmedPic (o cascade m : Byte) : Pic :=
  { imr := m, irr := 0, isr := 0, vbase := o, initStep := 0, needIcw4 := true, icw3 := cascade, icw4 := icw4 }

/-- ICW1 opens the sequence, the next three data bytes are the offset, ICW3 and ICW4, and the fourth is the mask. -/
theorem picData_sequence (p : Pic) (o cascade m : Byte) :
    picData (picData (picData (picData (picCommand p icw1) o) cascade) icw4) m = programmedPic o cascade m := by
  rw [picCommand_icw1]
  rfl

/-- The events of the ten writes, newest first. -/
def remapWriteEvents (o1 o2 m1 m2 : Byte) : List IoEvent :=
  (remapSequence o1 o2 m1 m2).reverse.map fun w => .portWrite w.1 w.2

theorem remapWrites_quiet (ws : List (Port × Byte)) {s : State} (hs : s.Quiet) :
    remapWrites ws s = ws.foldl (fun s w => s.portWrite w.1 w.2) s := by
  induction ws generalizing s with
  | nil => rfl
  | cons w ws ih =>
    have hwrite := hs.portWrite w.1 w.2
    rw [remapWrites, quiet_boundary_andThen _ _ hwrite, ih hwrite, List.foldl_cons]

/-- The ten writes take each controller through its own sequence. -/
theorem remapWrites_remapSequence_quiet (o1 o2 m1 m2 : Byte) {s : State} (hs : s.Quiet) :
    remapWrites (remapSequence o1 o2 m1 m2) s =
      { s with
        pic1 := programmedPic o1 icw3Pri (unmaskTimerKbd m1)
        pic2 := programmedPic o2 icw3Sec m2
        history := remapWriteEvents o1 o2 m1 m2 ++ s.history } := by
  rw [remapWrites_quiet _ hs, ← picData_sequence s.pic1, ← picData_sequence s.pic2]
  simp only [remapSequence, List.foldl, portWrite_pic1Cmd, portWrite_pic2Cmd, portWrite_pic1Data, portWrite_pic2Data]
  rfl

/-! ### PIC_REMAP -/

/-- An uninterrupted PIC_REMAP (R181): the two mask reads, then the ten writes, then the offsets recorded. -/
theorem picRemapOp_quiet {o1 o2 : Byte} {s : State} (hs : s.Quiet) (hifl : s.cpu.ifl = false) (ho1 : 32 ≤ o1.toNat)
    (ho2 : 32 ≤ o2.toNat) :
    picRemapOp o1 o2 s =
      { s with
        pic1 := programmedPic o1 icw3Pri (unmaskTimerKbd s.pic1.imr)
        pic2 := programmedPic o2 icw3Sec s.pic2.imr
        remap := some { off1 := o1, off2 := o2 }
        history := remapWriteEvents o1 o2 s.pic1.imr s.pic2.imr ++
          [.portRead pic2Data s.pic2.imr, .portRead pic1Data s.pic1.imr] ++ s.history } := by
  have quiet (pic1 pic2 : Pic) (history : List IoEvent) :
      ({ s with pic1 := pic1, pic2 := pic2, history := history } : State).Quiet := hs
  rw [picRemapOp, if_neg (by simp [hifl]), if_neg (by omega), quiet_boundary_andThen _ _ hs, portRead_pic1Data,
    quiet_boundary_andThen _ _ (quiet _ _ _), portRead_pic2Data, quiet_boundary_andThen _ _ (quiet _ _ _),
    remapWrites_remapSequence_quiet _ _ _ _ (quiet _ _ _), quiet_andThen _ _ (quiet _ _ _), List.append_assoc]
  rfl

/-- Settles O14: it is the uninterrupted PIC_REMAP, with the two controllers, the mask and the trace written out. -/
theorem picRemapProgramsControllers : Obligations.PicRemapProgramsControllers := by
  unfold Obligations.PicRemapProgramsControllers
  intro o1 o2 s hs hctx hifl ho1 ho2
  rw [exec_picRemap_of_main o1 o2 hctx, picRemapOp_quiet hs hifl ho1 ho2]
  rfl

end Sys2Proof.Machine
end

section
/-! PROOFS. An uninterrupted PIC_EOI (R185, R356), and the bits that an acknowledgment clears. -/

namespace Sys2Proof.Machine

open Sys2Proof

/-! ### The lowest-numbered set bit (R356) -/

theorem clearLowest_zero : clearLowest 0 = 0 := rfl

/-- What stays set is what has a set bit below it. -/
theorem getLsbD_clearLowest (x : Byte) (j : Nat) :
    (clearLowest x).getLsbD j = (x.getLsbD j && decide (∃ k < j, x.getLsbD k = true)) := by
  have hpred : x - 1 = ~~~(-x) := (BitVec.not_neg x).symm
  rw [clearLowest, hpred, BitVec.getLsbD_and, BitVec.getLsbD_not, BitVec.getLsbD_neg]
  cases hj : x.getLsbD j with
  | false => rfl
  | true => simp [BitVec.lt_of_getLsbD hj]

/-- Where `n` is the lowest-numbered set bit, it is the one that is cleared. -/
theorem getLsbD_clearLowest_of_lowest {x : Byte} {n : Nat} (hn : x.getLsbD n = true)
    (hlow : ∀ k < n, x.getLsbD k = false) (j : Nat) :
    (clearLowest x).getLsbD j = (x.getLsbD j && decide (j ≠ n)) := by
  rw [getLsbD_clearLowest]
  cases hj : x.getLsbD j with
  | false => rfl
  | true =>
    have hbelow : (∃ k < j, x.getLsbD k = true) ↔ j ≠ n := by
      constructor
      · rintro ⟨k, hk, hset⟩ rfl
        simp [hlow k hk] at hset
      · intro hne
        have hle : n ≤ j := by
          by_contra hlt
          simp [hlow j (by omega)] at hj
        exact ⟨n, by omega, hn⟩
    simp only [hbelow]

/-! ### PIC_EOI -/

theorem exec_picEoi_of_interrupt (line : Byte) {s : State} (hctx : s.ctx = .interrupt) :
    exec (.picEoi line) s = .next (eoiOp line s) :=
  admitted_next s .picEoi (eoiOp line) (by rw [hctx]; rfl)

/-- An uninterrupted acknowledgment of a primary line (R185). -/
theorem eoiOp_quiet_primary {line : Byte} {s : State} (hs : s.Quiet) (hline : line.toNat < 8) :
    eoiOp line s =
      { s with
        pic1 := { s.pic1 with isr := clearLowest s.pic1.isr }
        history := .portWrite pic1Cmd eoiCmd :: s.history } := by
  have hprimary : lineIsSecondary line = false := decide_eq_false (by omega)
  rw [eoiOp, hprimary, if_neg Bool.false_ne_true, quiet_envI_andThen _ _ hs, portWrite_pic1Cmd, picCommand_eoi]

/-- An uninterrupted acknowledgment of a secondary line: the secondary first (R185). -/
theorem eoiOp_quiet_secondary {line : Byte} {s : State} (hs : s.Quiet) (hline : 8 ≤ line.toNat) :
    eoiOp line s =
      { s with
        pic1 := { s.pic1 with isr := clearLowest s.pic1.isr }
        pic2 := { s.pic2 with isr := clearLowest s.pic2.isr }
        history := .portWrite pic1Cmd eoiCmd :: .portWrite pic2Cmd eoiCmd :: s.history } := by
  have hsecondary : lineIsSecondary line = true := decide_eq_true hline
  rw [eoiOp, hsecondary, if_pos rfl, quiet_envI_andThen _ _ (hs.portWrite _ _), portWrite_pic2Cmd, portWrite_pic1Cmd,
    picCommand_eoi, picCommand_eoi]

/-- Settles O16: a line below 8 is the primary's, any other is acknowledged at both controllers, and the bit cleared is the
lowest-numbered set one. -/
theorem picEoiAcknowledges : Obligations.PicEoiAcknowledges := by
  unfold Obligations.PicEoiAcknowledges
  refine ⟨fun line s hs hctx => ?_, fun x => ⟨?_, fun n hn hlow j => ?_⟩⟩
  · rw [exec_picEoi_of_interrupt line hctx]
    exact ⟨fun hline => congrArg _ (eoiOp_quiet_primary hs hline),
      fun hline => congrArg _ (eoiOp_quiet_secondary hs hline)⟩
  · rintro rfl
    exact clearLowest_zero
  · have hlowNat : ∀ k < n.val, x.getLsbD k = false := fun k hk => hlow ⟨k, hk.trans n.isLt⟩ hk
    rw [getLsbD_clearLowest_of_lowest hn hlowNat j]
    simp only [ne_eq, Fin.ext_iff]

end Sys2Proof.Machine
end

section
/-! PROOFS. An uninterrupted HANDLE (R200): its work by vector between the two writes of `in_irq`, and what it comes to for
the reported vectors, for the lines that are acknowledged only, and for the keyboard's. -/

namespace Sys2Proof.Machine

open Sys2Proof

/-! ### HANDLE (R200) -/

theorem exec_handle_of_environment (v : Byte) {s : State} (hctx : s.ctx = .environment) :
    exec (.handle v) s = .next (handleOp v s) :=
  admitted_next s .handle (handleOp v) (by rw [hctx]; rfl)

/-- The work of the vector runs with `in_irq` true, and `in_irq` is false after it (R208). -/
theorem handleOp_quiet {v : Byte} {s t : State} (hs : s.Quiet) (hwork : handleVector v { s with inIrq := true } = t)
    (ht : t.Quiet) : handleOp v s = { t with inIrq := false } := by
  have hentered : ({ s with inIrq := true } : State).Quiet := hs
  rw [handleOp, quiet_envI_andThen _ _ hentered, hwork, quiet_andThen _ _ ht, quiet_envI_andThen _ _ ht]

/-! ### The work of a vector (R200 step 2) -/

theorem handleVector_exception {v : Byte} (s : State) (hv : v.toNat ≤ 31) :
    handleVector v s = s.log (.report .exception v) := if_pos hv

/-- HANDLE of an exception vector is its report (R203). -/
theorem handleOp_exception {v : Byte} {s : State} (hs : s.Quiet) (hv : v.toNat ≤ 31) :
    handleOp v s = { s.log (.report .exception v) with inIrq := false } := by
  have hentered : ({ s with inIrq := true } : State).Quiet := hs
  rw [handleOp_quiet hs (handleVector_exception _ hv) hentered]
  rfl

theorem handleVector_unexpected {v : Byte} (s : State) (hv : 48 ≤ v.toNat) :
    handleVector v s = s.log (.report .unexpected v) := by
  rw [handleVector, if_neg (by omega), if_neg (by omega)]

/-- A hardware line is served, and then acknowledged (R204, R208). -/
theorem handleVector_line {v : Byte} {s t : State} (hv : 32 ≤ v.toNat) (hv' : v.toNat ≤ 47)
    (hwork : lineWork (lineOf v) s = t) (ht : t.Quiet) : handleVector v s = eoiOp (lineOf v) t := by
  rw [handleVector, if_neg (by omega), if_pos hv', hwork, quiet_andThen _ _ ht, quiet_envI_andThen _ _ ht]

theorem lineOf_toNat {v : Byte} (hv : 32 ≤ v.toNat) : (lineOf v).toNat = v.toNat - 32 := by
  unfold lineOf
  bv_omega

/-- The lines 2 to 15 have no work (R204). -/
theorem lineWork_none {line : Byte} (s : State) (hline : 2 ≤ line.toNat) : lineWork line s = s := by
  have h0 : line ≠ 0 := by rintro rfl; simp at hline
  have h1 : line ≠ 1 := by rintro rfl; simp at hline
  rw [lineWork, if_neg h0, if_neg h1]

/-- The primary after an acknowledgment, and the acknowledgment in the history (R185, R356). -/
def State.acknowledged (s : State) : State :=
  { s with
    pic1 := { s.pic1 with isr := clearLowest s.pic1.isr }
    history := .portWrite pic1Cmd eoiCmd :: s.history }

/-- HANDLE of a line of the primary: its work with `in_irq` true, then one acknowledgment (R204, R208). -/
theorem handleOp_primary {v : Byte} {s t : State} (hs : s.Quiet) (hv : 32 ≤ v.toNat) (hv' : v.toNat ≤ 39)
    (hwork : lineWork (lineOf v) { s with inIrq := true } = t) (ht : t.Quiet) :
    handleOp v s = { t.acknowledged with inIrq := false } := by
  have hline : (lineOf v).toNat < 8 := by rw [lineOf_toNat hv]; omega
  refine handleOp_quiet hs ?_ ht
  rw [handleVector_line hv (by omega) hwork ht, eoiOp_quiet_primary ht hline]
  rfl

/-! ### The obligations -/

/-- Settles O17: reports leave out the acknowledgment, and the lines 2 to 15 have no work before theirs. -/
theorem handleReportsOrAcknowledges : Obligations.HandleReportsOrAcknowledges := by
  unfold Obligations.HandleReportsOrAcknowledges
  intro v s hs hctx
  have hentered : ({ s with inIrq := true } : State).Quiet := hs
  rw [exec_handle_of_environment v hctx]
  refine ⟨fun hv => ?_, fun hv => ?_, fun hv hv' => ?_, fun hv hv' => ?_⟩
  · rw [handleOp_exception hs hv]
    rfl
  · rw [handleOp_quiet hs (handleVector_unexpected _ hv) hentered]
    rfl
  · have hline := lineOf_toNat (v := v) (by omega)
    rw [handleOp_primary hs (by omega) hv' (lineWork_none _ (by omega)) hentered]
    rfl
  · have hline := lineOf_toNat (v := v) (by omega)
    have hwork := handleVector_line (v := v) (by omega) hv' (lineWork_none { s with inIrq := true } (by omega)) hentered
    rw [eoiOp_quiet_secondary hentered (by omega)] at hwork
    rw [handleOp_quiet hs hwork hs]

/-- Settles O19: the keyboard's line has the intake as its work. -/
theorem handleKeyboardLine : Obligations.HandleKeyboardLine := by
  unfold Obligations.HandleKeyboardLine
  intro s t hs hctx hintake ht
  rw [exec_handle_of_environment 33 hctx, handleOp_primary (v := 33) hs (by decide) (by decide) hintake ht]
  rfl

end Sys2Proof.Machine
end

section
/-! PROOFS. An uninterrupted scan of the timeout table whose callbacks issue no request (R226, R228): the entries that are
due at the count the scan runs at are deactivated and invoked in index order; and with it TICK and HANDLE of the timer's
line (R220, R204). -/

namespace Sys2Proof.Machine

open Sys2Proof

/-! ### The table and the invocations of a scan (R226) -/

/-- An entry after a scan at `now`: deactivated where it is due. -/
def Timeout.afterScan (now : Word64) (t : Timeout) : Timeout := if due t now then { t with active := false } else t

theorem Timeout.afterScan_of_not_due {now : Word64} {t : Timeout} (h : due t now = false) : t.afterScan now = t := by
  simp [Timeout.afterScan, h]

theorem Timeout.afterScan_of_due {now : Word64} {t : Timeout} (h : due t now = true) :
    t.afterScan now = { t with active := false } := if_pos h

/-- An entry that a scan has left is not due any more. -/
theorem Timeout.due_deactivated (now : Word64) (t : Timeout) : due { t with active := false } now = false := rfl

/-- The table after a scan at `now` of the slots `is`. -/
def scannedAt (is : List (Fin 16)) (now : Word64) (tmo : Vector Timeout 16) : Vector Timeout 16 :=
  Vector.ofFn fun k => if k ∈ is then tmo[k].afterScan now else tmo[k]

/-- The invocations of a scan at `now` of the slots `is`, in their order. -/
def invokesAt (is : List (Fin 16)) (now : Word64) (tmo : Vector Timeout 16) : List IoEvent :=
  (is.filter fun i => due tmo[i] now).map fun i => .invoke tmo[i].cb

/-- The table with slot `i` deactivated (R226 step 2). -/
def deactivated (i : Fin 16) (tmo : Vector Timeout 16) : Vector Timeout 16 := tmo.set i { tmo[i] with active := false }

theorem scannedAt_getElem (is : List (Fin 16)) (now : Word64) (tmo : Vector Timeout 16) (k : Fin 16) :
    (scannedAt is now tmo)[k] = if k ∈ is then tmo[k].afterScan now else tmo[k] :=
  Vector.getElem_ofFn _

theorem deactivated_getElem_self (i : Fin 16) (tmo : Vector Timeout 16) :
    (deactivated i tmo)[i] = { tmo[i] with active := false } :=
  Vector.getElem_set_self _

theorem deactivated_getElem_of_ne {i k : Fin 16} (tmo : Vector Timeout 16) (h : k ≠ i) :
    (deactivated i tmo)[k] = tmo[k] :=
  Vector.getElem_set_ne _ _ fun e => h (Fin.ext e.symm)

theorem tmo_ext {t u : Vector Timeout 16} (h : ∀ k : Fin 16, t[k] = u[k]) : t = u :=
  Vector.ext fun k hk => h ⟨k, hk⟩

theorem scannedAt_nil (now : Word64) (tmo : Vector Timeout 16) : scannedAt [] now tmo = tmo :=
  tmo_ext fun k => by rw [scannedAt_getElem, if_neg List.not_mem_nil]

/-- A slot that is not due is passed. -/
theorem scannedAt_cons_of_not_due {i : Fin 16} {now : Word64} {tmo : Vector Timeout 16} (is : List (Fin 16))
    (h : due tmo[i] now = false) : scannedAt (i :: is) now tmo = scannedAt is now tmo := by
  refine tmo_ext fun k => ?_
  rw [scannedAt_getElem, scannedAt_getElem]
  by_cases hk : k = i
  · subst hk
    rw [if_pos List.mem_cons_self, Timeout.afterScan_of_not_due h, ite_self]
  · simp only [List.mem_cons, hk, false_or]

/-- A slot that is due is deactivated before the scan goes on. -/
theorem scannedAt_cons_of_due {i : Fin 16} {now : Word64} {tmo : Vector Timeout 16} (is : List (Fin 16))
    (h : due tmo[i] now = true) : scannedAt (i :: is) now tmo = scannedAt is now (deactivated i tmo) := by
  refine tmo_ext fun k => ?_
  rw [scannedAt_getElem, scannedAt_getElem]
  by_cases hk : k = i
  · subst hk
    rw [if_pos List.mem_cons_self, Timeout.afterScan_of_due h, deactivated_getElem_self,
      Timeout.afterScan_of_not_due (Timeout.due_deactivated now _), ite_self]
  · rw [deactivated_getElem_of_ne tmo hk]
    simp only [List.mem_cons, hk, false_or]

theorem invokesAt_cons_of_not_due {i : Fin 16} {now : Word64} {tmo : Vector Timeout 16} (is : List (Fin 16))
    (h : due tmo[i] now = false) : invokesAt (i :: is) now tmo = invokesAt is now tmo := by
  rw [invokesAt, List.filter_cons_of_neg (by rw [h]; exact Bool.false_ne_true), invokesAt]

/-- The invocation of a slot that is due leaves those of the other slots as they are. -/
theorem invokesAt_cons_of_due {i : Fin 16} {now : Word64} {tmo : Vector Timeout 16} {is : List (Fin 16)} (hi : i ∉ is)
    (h : due tmo[i] now = true) :
    invokesAt (i :: is) now tmo = .invoke tmo[i].cb :: invokesAt is now (deactivated i tmo) := by
  have hother (k : Fin 16) (hk : k ∈ is) : (deactivated i tmo)[k] = tmo[k] :=
    deactivated_getElem_of_ne tmo fun e => hi (e ▸ hk)
  have hfilter : (is.filter fun k => due (deactivated i tmo)[k] now) = is.filter fun k => due tmo[k] now :=
    List.filter_congr fun k hk => by rw [hother k hk]
  have hmap : ((is.filter fun k => due tmo[k] now).map fun k => IoEvent.invoke (deactivated i tmo)[k].cb) =
      (is.filter fun k => due tmo[k] now).map fun k => .invoke tmo[k].cb :=
    List.map_congr_left fun k hk => by rw [hother k (List.mem_of_mem_filter hk)]
  rw [invokesAt, List.filter_cons_of_pos (by exact h), List.map_cons, invokesAt, hfilter, hmap]

theorem slots_eq_finRange : slots = List.finRange 16 := by decide

/-- The table, slot by slot. -/
theorem tmo_toList (tmo : Vector Timeout 16) : tmo.toList = slots.map fun i => tmo[i] := by
  rw [slots_eq_finRange]
  exact List.ext_getElem (by simp) fun k _ _ => by simp

/-- A scan of every slot is the scan of R226. -/
theorem scannedAt_slots (now : Word64) (tmo : Vector Timeout 16) : (scannedAt slots now tmo).toList = scanned tmo now := by
  rw [scanned, tmo_toList, tmo_toList, List.map_map]
  exact List.map_congr_left fun i _ => (scannedAt_getElem _ _ _ _).trans (if_pos (mem_slots i))

theorem invokesAt_slots (now : Word64) (tmo : Vector Timeout 16) : invokesAt slots now tmo = scanInvokes tmo now := by
  rw [scanInvokes, tmo_toList, List.filter_map, List.map_map]
  rfl

/-! ### A scan whose callbacks issue no request -/

/-- A callback that issues no request and returns (R228). -/
theorem invokeOp_silent {cb : CallbackId} {s : State} (hs : s.Quiet)
    (hcb : s.cbs.lookup cb = some { requests := [], returns := true }) :
    invokeOp cb s = { s with history := .invoke cb :: s.history, freeCount := s.freeCount + 1 } :=
  invokeOp_of_quiet hs hcb rfl hs.live_eq

/-- The state after slot `i` has fired, where its callback issues no request. -/
def State.fired (s : State) (i : Fin 16) : State :=
  { s with
    tmo := deactivated i s.tmo
    history := .invoke s.tmo[i].cb :: s.history
    freeCount := s.freeCount + 1 }

theorem fireSlot_silent {i : Fin 16} {s : State} (hs : s.Quiet)
    (hcb : s.cbs.lookup s.tmo[i].cb = some { requests := [], returns := true }) : fireSlot i s = s.fired i := by
  have hquiet : (s.setSlot i { s.tmo[i] with active := false }).Quiet := hs
  rw [fireSlot, quiet_envI_andThen _ _ hquiet, invokeOp_silent hquiet hcb]
  rfl

theorem callbacksSilent_fired {s : State} (h : callbacksSilent s) (i : Fin 16) : callbacksSilent (s.fired i) := by
  intro k hk
  by_cases hki : k = i
  · subst hki
    simp [State.fired, deactivated] at hk
  · simp only [State.fired, deactivated_getElem_of_ne s.tmo hki] at hk ⊢
    exact h k hk

/-- A quiet scan passes a slot that does not fire, and goes on from the state in which a slot that fires leaves it. -/
theorem advanceSlots_cons_of_not_fires {i : Fin 16} (is : List (Fin 16)) {s : State} (hs : s.Quiet)
    (h : s.fires i = false) : advanceSlots (i :: is) s = advanceSlots is s :=
  advanceSlots_append_of_not_fires [i] is hs (by simpa using h)

theorem advanceSlots_cons_of_fires {i : Fin 16} (is : List (Fin 16)) {s t : State} (hs : s.Quiet)
    (h : s.fires i = true) (hfire : fireSlot i s = t) (ht : t.Quiet) :
    advanceSlots (i :: is) s = advanceSlots is t := by
  rw [advanceSlots, if_pos h, quiet_envI_andThen _ _ hs, hfire, quiet_andThen _ _ ht, quiet_envI_andThen _ _ ht]

/-- A scan of different slots: the due entries are deactivated, and their callbacks are invoked in order. -/
theorem advanceSlots_silent {is : List (Fin 16)} (his : is.Nodup) {s : State} (hs : s.Quiet) (hcbs : callbacksSilent s) :
    advanceSlots is s =
      { s with
        tmo := scannedAt is s.ticks s.tmo
        history := (invokesAt is s.ticks s.tmo).reverse ++ s.history
        freeCount := s.freeCount + (invokesAt is s.ticks s.tmo).length } := by
  induction is generalizing s with
  | nil => rw [scannedAt_nil]; rfl
  | cons i is ih =>
    obtain ⟨hi, hnodup⟩ := List.nodup_cons.1 his
    cases hdue : due s.tmo[i] s.ticks with
    | false =>
      rw [advanceSlots_cons_of_not_fires is hs hdue, ih hnodup hs hcbs, scannedAt_cons_of_not_due is hdue,
        invokesAt_cons_of_not_due is hdue]
    | true =>
      have hactive : s.tmo[i].active = true := by
        rw [due, Bool.and_eq_true] at hdue
        exact hdue.1
      have hfired : (s.fired i).Quiet := hs
      rw [advanceSlots_cons_of_fires is hs hdue (fireSlot_silent hs (hcbs i hactive)) hfired,
        ih hnodup hfired (callbacksSilent_fired hcbs i), scannedAt_cons_of_due is hdue, invokesAt_cons_of_due hi hdue]
      simp [State.fired, Nat.add_assoc, Nat.add_comm]

/-- The state after a scan of the whole table whose callbacks issue no request (R226). -/
def State.scannedSilently (s : State) : State :=
  { s with
    tmo := scannedAt slots s.ticks s.tmo
    history := (scanInvokes s.tmo s.ticks).reverse ++ s.history
    freeCount := s.freeCount + (scanInvokes s.tmo s.ticks).length }

theorem advanceOp_silent {s : State} (hs : s.Quiet) (hcbs : callbacksSilent s) : advanceOp s = s.scannedSilently := by
  have hnodup : slots.Nodup := by decide
  rw [advanceOp, advanceSlots_silent hnodup hs hcbs, invokesAt_slots]
  rfl

/-- TICK counts, and then scans at the new count (R220). -/
theorem tickOp_silent {s : State} (hs : s.Quiet) (hcbs : callbacksSilent s) :
    tickOp s = ({ s with ticks := s.ticks + 1 } : State).scannedSilently := by
  have hcounted : ({ s with ticks := s.ticks + 1 } : State).Quiet := hs
  rw [tickOp, quiet_envI_andThen _ _ hcounted, advanceOp_silent hcounted hcbs]

/-- Settles O18: the timer's line has TICK as its work, and the acknowledgment comes after it. -/
theorem handleTimerLine : Obligations.HandleTimerLine := by
  unfold Obligations.HandleTimerLine
  intro s hs hctx hcbs
  have hentered : ({ s with inIrq := true } : State).Quiet := hs
  have hwork : lineWork (lineOf 32) { s with inIrq := true } = _ := tickOp_silent hentered hcbs
  rw [exec_handle_of_environment 32 hctx, handleOp_primary (v := 32) hs (by decide) (by decide) hwork hs]
  exact ⟨_, rfl, scannedAt_slots _ _, rfl⟩

end Sys2Proof.Machine
end

section
/-! PROOFS. The delivery of an exception to main context (R203, R347, R352, R353): its report, and where main context goes
on: between operations, at an instruction that raises the exception again, and inside SET_GATE. -/

namespace Sys2Proof.Machine

open Sys2Proof

/-! ### The report (R203, R352, R353) -/

/-- HANDLE of the vector that the stub passes stands between Enter and Return, and reports it. -/
theorem deliverHandle_exception {s : State} {v w : Byte} (hs : s.Quiet) (hctx : s.ctx = .main) (hwired : wiredTo s v w)
    (hw : w.toNat ≤ 31) : deliverWith handleOp v s = afterReport w s := by
  have hcheck : deliveryCheck s v = .ok w :=
    deliveryCheck_wired s v w hwired fun h => absurd hw (by rw [h]; decide)
  have hentered : s.enter.Quiet := hs
  have hreported : ({ s.enter.log (.report .exception w) with inIrq := false } : State).Quiet := hs
  obtain ⟨hirq, -⟩ := hwired
  simp only [deliverWith, hcheck]
  rw [handleOp_exception hentered hw, quiet_andThen _ _ hreported]
  simp only [State.leave, State.enter, State.log, afterReport, wake_eq_wokenMain, ← hctx, ← hirq]

theorem afterReport_quiet {s : State} (hs : s.Quiet) (w : Byte) : (afterReport w s).Quiet := hs

/-- EXC_RESUME is asked for the delivered vector (R347, log 38). -/
theorem deliverAt_exception (p : MainPoint) {s : State} {v w : Byte} (hs : s.Quiet) (hctx : s.ctx = .main)
    (hv : v.toNat ≤ 31) (hwired : wiredTo s v w) (hw : w.toNat ≤ 31) :
    deliverAt p v s = (afterReport w s).resumed v p (resumeAt s.cfg v p) := by
  rw [deliverAt, deliverHandle_exception hs hctx hwired hw, quiet_andThen _ _ (afterReport_quiet hs w), if_pos hv]

/-- An exception is delivered whatever the interrupt flag is (R348). -/
theorem stimulusWith_exception (deliver : Byte → State → State) {v : Byte} (s : State) (hv : v.toNat ≤ 31) :
    stimulusWith deliver (.deliver v) s = deliver v s := by
  simp [stimulusWith, hv]

/-! ### Where main context goes on (R347) -/

/-- Main context, interrupted at `p` by `v`, where EXC_RESUME has had its say (log 22): where it was, at the instruction
again, or at the start of another program. -/
def State.continued (s : State) (v : Byte) (p : MainPoint) : Resume → State
  | .past => s
  | .retry => { s with main := retrying v p }
  | .elsewhere program => { s with main := .idle, inputs := program }

/-- The end of a step in which an exception was reported. -/
theorem State.finish_resumed (s : State) {t : State} (ht : t.Quiet) (v : Byte) (p : MainPoint) (r : Resume) :
    s.finish (t.resumed v p r) = (t.atRestWith s.inIrq t.inputs).continued v p r := by
  obtain ⟨hfaults, hhang, hredirect, hscript⟩ := ht
  rcases t with ⟨⟩
  subst hfaults hhang hredirect hscript
  cases r <;> rfl

theorem resumed_away_stopped (s : State) (v : Byte) (p : MainPoint) {r : Resume} (hr : r ≠ .past) :
    (s.resumed v p r).live = false := by
  cases r with
  | past => exact absurd rfl hr
  | retry => exact Bool.and_false _
  | elsewhere program => exact Bool.and_false _

/-- A ready state is at rest. -/
theorem State.Ready.atRestWith_eq {s : State} (hs : s.Ready) {b : Bool} (hb : s.inIrq = b) (inputs : List Input) :
    s.atRestWith b inputs = { s with inputs := inputs } := by
  obtain ⟨-, ⟨-, -, -, hscript⟩, hctx, hrunning, hpassed⟩ := hs
  simp only [State.atRestWith, ← hscript, ← hctx, ← hrunning, ← hpassed, ← hb]

/-- A step that ends in a ready state leaves it as it is. -/
theorem State.Ready.finish_eq {s t : State} (ht : t.Ready) (hirq : t.inIrq = s.inIrq) : s.finish t = t := by
  have hrest := ht.atRestWith_eq hirq t.inputs
  obtain ⟨-, hquiet, -⟩ := ht
  rw [State.finish_live _ _ hquiet.live_eq, hquiet.script_eq]
  exact hrest

theorem afterReport_ready {s : State} (hs : s.Ready) (w : Byte) : (afterReport w s).Ready := hs

/-! ### Between operations -/

/-- A delivery where main context stands between operations. -/
theorem step_exception {s : State} {v w : Byte} {rest : List Input} (hs : s.Ready) (hv : v.toNat ≤ 31)
    (hwired : wiredTo s v w) (hw : w.toNat ≤ 31) (hin : s.inputs = .stim [.deliver v] [] :: rest) :
    step s = .next
      (({ afterReport w s with inputs := rest } : State).continued v (restPoint s rest)
        (resumeAt s.cfg v (restPoint s rest))) := by
  obtain ⟨hwf, hquiet, hctx, hrunning, hpassed⟩ := id hs
  obtain ⟨hfaults, hhang, hredirect, hscript⟩ := hquiet
  have hstart : ({ s with inputs := rest, script := [] } : State).Quiet := ⟨hfaults, hhang, hredirect, rfl⟩
  have hpoint : State.point { s with inputs := rest, script := [] } = restPoint s rest := by
    simp only [State.point, restPoint, hrunning, hpassed]
  have hrest := (afterReport_ready hs w).atRestWith_eq rfl rest
  rw [step_of_faults_nil hwf hfaults, runStep_stim hhang hin, runBatch, orderBatch_singleton, stimuliWith_singleton,
    stimulusWith_exception _ _ hv, deliverOp, hpoint, deliverAt_exception _ hstart hctx hv hwired hw,
    State.finish_resumed _ (afterReport_quiet hstart w), ← hrest]
  rfl

/-! ### At an instruction that is executed again -/

theorem mainStep_retrying {s : State} {v : Byte} {p : MainPoint} (hmain : s.main = retrying v p) :
    mainStep s = (deliverAt p v s).andThen fun t => { t with main := .idle } := by
  simp only [mainStep, hmain, retrying]

/-- Main context's own step, where it stands at the instruction and no input is left. -/
theorem step_retrying {s : State} {v w : Byte} {p : MainPoint} (hs : s.Ready) (hv : v.toNat ≤ 31)
    (hwired : wiredTo s v w) (hw : w.toNat ≤ 31) (hmain : s.main = retrying v p) (hin : s.inputs = []) :
    step s = .next
      (s.finish (((afterReport w s).resumed v p (resumeAt s.cfg v p)).andThen fun t => { t with main := .idle })) := by
  obtain ⟨hwf, hquiet, hctx, -, -⟩ := hs
  obtain ⟨hfaults, hhang, -, hscript⟩ := id hquiet
  have hsame : ({ s with script := [] } : State) = s := by rw [← hscript]
  have hrun : runStep s = .next (runMain [] s) := by simp [runStep, hhang, hin]
  rw [step_of_faults_nil hwf hfaults, hrun, runMain, hsame, mainStep_retrying hmain,
    deliverAt_exception p hquiet hctx hv hwired hw]

theorem step_retrying_past {s : State} {v w : Byte} {p : MainPoint} (hs : s.Ready) (hv : v.toNat ≤ 31)
    (hwired : wiredTo s v w) (hw : w.toNat ≤ 31) (hmain : s.main = retrying v p) (hin : s.inputs = [])
    (hr : resumeAt s.cfg v p = .past) : step s = .next { afterReport w s with main := .idle } := by
  have hready : ({ afterReport w s with main := .idle } : State).Ready := hs
  obtain ⟨-, hquiet, -⟩ := id hs
  rw [step_retrying hs hv hwired hw hmain hin, hr, State.resumed, quiet_andThen _ _ (afterReport_quiet hquiet w)]
  exact congrArg Host.Outcome.next (hready.finish_eq rfl)

theorem step_retrying_away {s : State} {v w : Byte} {p : MainPoint} (hs : s.Ready) (hv : v.toNat ≤ 31)
    (hwired : wiredTo s v w) (hw : w.toNat ≤ 31) (hmain : s.main = retrying v p) (hin : s.inputs = [])
    (hr : resumeAt s.cfg v p ≠ .past) :
    step s = .next ((afterReport w s).continued v p (resumeAt s.cfg v p)) := by
  have hrest := (afterReport_ready hs w).atRestWith_eq (b := s.inIrq) rfl s.inputs
  obtain ⟨-, hquiet, -⟩ := id hs
  rw [step_retrying hs hv hwired hw hmain hin, State.andThen_stopped _ _ (resumed_away_stopped _ _ _ hr),
    State.finish_resumed _ (afterReport_quiet hquiet w)]
  exact congrArg (fun t : State => Host.Outcome.next (t.continued v p (resumeAt s.cfg v p))) hrest

/-- An instruction that is executed again stands where it stood (R347: a livelock). -/
theorem afterReport_main_retrying {s : State} {v : Byte} {p : MainPoint} (hmain : s.main = retrying v p) (w : Byte) :
    (afterReport w s).main = retrying v p := by
  rw [afterReport, hmain]
  rfl

/-! ### Inside SET_GATE (R160) -/

/-- One stimulus that lands alone at a boundary of main context. -/
theorem boundary_singleton {s : State} {y : Stimulus} {during : List (List Stimulus)} (hctx : s.ctx = .main)
    (hscript : s.script = [y] :: during) :
    boundary s = stimulusWith deliverOp y { s with script := during, passed := s.passed + 1 } := by
  simp only [boundary, hctx, if_true, envM, hscript, orderBatch_singleton, stimuliWith_singleton]

theorem exec_setGate_of_main (x : Byte) (h : Word64) (attr : Byte) {s : State} (hctx : s.ctx = .main) :
    exec (.setGate x h attr) s = .next (setGateOp x h attr s) :=
  admitted_next s .setGate (setGateOp x h attr) (by rw [hctx]; rfl)

/-- SET_GATE goes on to its end from a boundary that leaves the run quiet. -/
theorem setGateOp_of_boundary_quiet {x : Byte} (h : Word64) (attr : Byte) {s t : State}
    (hbd : boundary { s with gateBusy := some x } = t) (ht : t.Quiet) :
    setGateOp x h attr s =
      { t with mem := writeGate t.mem (slotAddr t.cfg.idtBase x) h attr, gateBusy := none } := by
  have hwritten : ({ t with mem := writeGate t.mem (slotAddr t.cfg.idtBase x) h attr } : State).Quiet := by
    obtain ⟨hfaults, hhang, hredirect, hscript⟩ := ht
    exact ⟨hfaults, hhang, hredirect, hscript⟩
  rw [setGateOp, hbd, quiet_andThen _ _ ht, quiet_boundary_andThen _ _ hwritten]

/-- SET_GATE is given up as it stands where its first boundary stops the run. -/
theorem setGateOp_of_boundary_stopped {x : Byte} (h : Word64) (attr : Byte) {s t : State}
    (hbd : boundary { s with gateBusy := some x } = t) (ht : t.live = false) : setGateOp x h attr s = t := by
  rw [setGateOp, hbd, State.andThen_stopped _ _ ht]

/-- SET_GATE(x), the request `i` of main context, between its steps 1 and 2, after the one boundary there. -/
def State.insideSetGate (s : State) (x : Byte) (i : Instr) (rest : List Input) : State :=
  { s with inputs := rest, script := [], running := some i, passed := 1, gateBusy := some x }

/-- What lands between the steps 1 and 2 interrupts main context at its first step boundary in the request. -/
theorem boundary_setGate_exception {s : State} {v w x : Byte} {i : Instr} {rest : List Input} (hs : s.Ready)
    (hmain : s.main = .idle) (hv : v.toNat ≤ 31) (hwired : wiredTo s v w) (hw : w.toNat ≤ 31) (hx : x ≠ v) {p : MainPoint}
    (hp : p = { ctl := .idle, op := some i, passed := 1, next := rest }) :
    boundary { ({ s with inputs := rest } : State).begin .main (some i) [[.deliver v]] with gateBusy := some x } =
      (afterReport w (s.insideSetGate x i rest)).resumed v p (resumeAt s.cfg v p) := by
  obtain ⟨-, ⟨hfaults, hhang, hredirect, -⟩, hctx, -, hpassed⟩ := hs
  have hinside : (s.insideSetGate x i rest).Quiet := ⟨hfaults, hhang, hredirect, rfl⟩
  have hgate : wiredTo (s.insideSetGate x i rest) v w := by
    obtain ⟨hirq, hloaded, -, hlimit, hattr, hsel, hstub⟩ := hwired
    exact ⟨hirq, hloaded, fun e => hx (Option.some.inj e), hlimit, hattr, hsel, hstub⟩
  have hpoint : (s.insideSetGate x i rest).point = p := by
    rw [hp, ← hmain]
    rfl
  have hbegun : ({ ({ s with inputs := rest } : State).begin .main (some i) [[.deliver v]] with
      gateBusy := some x, script := [], passed := s.passed + 1 } : State) = s.insideSetGate x i rest := by
    have hirq : (s.inIrq || Context.main == .interrupt || Context.main == .callback) = s.inIrq := by
      cases s.inIrq <;> rfl
    simp only [State.begin, State.insideSetGate, hirq, hpassed, hctx]
  rw [boundary_singleton rfl rfl, stimulusWith_exception _ _ hv, deliverOp]
  refine (congrArg (fun u : State => deliverAt u.point v u) hbegun).trans ?_
  rw [hpoint, deliverAt_exception p hinside hctx hv hgate hw]
  rfl

/-- Past the exception, SET_GATE goes on as it would from the reported state. -/
theorem step_setGate_exception_past {s : State} {v w x : Byte} {h : Word64} {attr : Byte} {rest : List Input}
    (hs : s.Ready) (hmain : s.main = .idle) (hv : v.toNat ≤ 31) (hwired : wiredTo s v w) (hw : w.toNat ≤ 31) (hx : x ≠ v)
    (hin : s.inputs = .request .main (encode (.setGate x h attr)) [[.deliver v]] :: rest) {p : MainPoint}
    (hp : p = { ctl := .idle, op := some (.setGate x h attr), passed := 1, next := rest })
    (hr : resumeAt s.cfg v p = .past) :
    step s = step { afterReport w s with inputs := .request .main (encode (.setGate x h attr)) [] :: rest } := by
  have hbd := boundary_setGate_exception hs hmain hv hwired hw hx hp
  rw [hr, State.resumed] at hbd
  obtain ⟨hwf, ⟨hfaults, hhang, hredirect, -⟩, -, -, -⟩ := hs
  have hreported : (afterReport w (s.insideSetGate x (.setGate x h attr) rest)).Quiet := ⟨hfaults, hhang, hredirect, rfl⟩
  have hmain' : (afterReport w s).main = .idle := by
    rw [afterReport, hmain]
    rfl
  have hinterrupted := stepRunsDecodedRequest s _ .main _ _ _ rest hwf hfaults hhang hmain hin (decode_encode _)
    ((exec_setGate_of_main x h attr rfl).trans (congrArg _ (setGateOp_of_boundary_quiet h attr hbd hreported)))
  have hwhole := stepRunsDecodedRequest
    { afterReport w s with inputs := .request .main (encode (.setGate x h attr)) [] :: rest } _ .main _ _ _ rest
    hwf hfaults hhang hmain' rfl (decode_encode _)
    (exec_setGate_quiet x h attr ⟨hfaults, hhang, hredirect, rfl⟩ (.inl rfl))
  rw [hinterrupted, hwhole, State.finish_live, State.finish_live]
  · rfl
  · exact State.Quiet.live_eq ⟨hfaults, hhang, hredirect, rfl⟩
  · exact State.Quiet.live_eq ⟨hfaults, hhang, hredirect, rfl⟩

/-- Else SET_GATE is given up with `gate_busy` set (log 22). -/
theorem step_setGate_exception_away {s : State} {v w x : Byte} {h : Word64} {attr : Byte} {rest : List Input}
    (hs : s.Ready) (hmain : s.main = .idle) (hv : v.toNat ≤ 31) (hwired : wiredTo s v w) (hw : w.toNat ≤ 31) (hx : x ≠ v)
    (hin : s.inputs = .request .main (encode (.setGate x h attr)) [[.deliver v]] :: rest) {p : MainPoint}
    (hp : p = { ctl := .idle, op := some (.setGate x h attr), passed := 1, next := rest })
    (hr : resumeAt s.cfg v p ≠ .past) :
    step s = .next
      (({ afterReport w s with inputs := rest, gateBusy := some x } : State).continued v p (resumeAt s.cfg v p)) := by
  have hbd := boundary_setGate_exception hs hmain hv hwired hw hx hp
  have hrest := (afterReport_ready hs w).atRestWith_eq (b := s.inIrq) rfl rest
  obtain ⟨hwf, ⟨hfaults, hhang, hredirect, -⟩, -, -, -⟩ := hs
  have hreported : (afterReport w (s.insideSetGate x (.setGate x h attr) rest)).Quiet := ⟨hfaults, hhang, hredirect, rfl⟩
  rw [stepRunsDecodedRequest s _ .main _ _ _ rest hwf hfaults hhang hmain hin (decode_encode _)
    ((exec_setGate_of_main x h attr rfl).trans
      (congrArg _ (setGateOp_of_boundary_stopped h attr hbd (resumed_away_stopped _ _ _ hr)))),
    State.finish_resumed _ hreported]
  exact congrArg
    (fun t : State => Host.Outcome.next (State.continued { t with gateBusy := some x } v p (resumeAt s.cfg v p))) hrest

/-- Settles O50: the report is made in the same way at each of the three places, and where main context goes on from there
is EXC_RESUME's answer. -/
theorem exceptionDeliveryReports : Obligations.ExceptionDeliveryReports := by
  unfold Obligations.ExceptionDeliveryReports
  intro s v w rest hs hv hwired hw
  refine ⟨fun hin => ?_, fun p hmain hin => ?_, fun x h attr hx hmain hin => ?_⟩
  · rw [step_exception hs hv hwired hw hin]
    refine ⟨fun hr => ?_, fun hr => ?_, fun program hr => ?_⟩ <;> rw [hr] <;> rfl
  · have haway := step_retrying_away hs hv hwired hw hmain hin
    refine ⟨step_retrying_past hs hv hwired hw hmain hin, fun hr => ?_, fun program hr => ?_⟩
    · rw [haway (by rw [hr]; nofun), hr, State.continued, ← afterReport_main_retrying hmain w]
    · rw [haway (by rw [hr]; nofun), hr]
      rfl
  · intro p
    have haway := step_setGate_exception_away hs hmain hv hwired hw hx hin (p := p) rfl
    refine ⟨step_setGate_exception_past hs hmain hv hwired hw hx hin rfl, fun hr => ?_, fun program hr => ?_⟩
    · rw [haway (by rw [hr]; nofun), hr]
      rfl
    · rw [haway (by rw [hr]; nofun), hr]
      rfl

end Sys2Proof.Machine
end

section
/-! PROOFS. A delivery that waits in the script of an operation, at whichever of its boundaries (R202, R390, R392): where main
context's boundaries refuse it, SCHEDULE and SET_GATE stop there with their bookkeeping set. -/

namespace Sys2Proof.Machine

open Sys2Proof

/-! ### What going on keeps (R14) -/

/-- What holds where a run has stopped, and of the rest of one that goes on. -/
theorem State.andThen_elim {P : State → Prop} {t : State} {k : State → State} (hstopped : t.live = false → P t)
    (hlive : t.live = true → P (k t)) : P (t.andThen k) := by
  rcases t.andThen_cases k with ⟨hl, e⟩ | ⟨hl, e⟩
  · rw [e]; exact hlive hl
  · rw [e]; exact hstopped hl

theorem State.andThen_keeps {P : State → Prop} {t : State} {k : State → State} (h : P t) (hk : ∀ u, P u → P (k u)) :
    P (t.andThen k) :=
  State.andThen_elim (fun _ => h) fun _ => hk t h

/-! ### A delivery that waits in the script (log 9) -/

/-- The script of `k` boundaries at which nothing lands, and then the delivery of `x`. -/
def awaiting (x : Byte) (k : Nat) : List (List Stimulus) := List.replicate k [] ++ [[.deliver x]]

/-- The delivery of `x` is still to come, or has come and was the fault `f`. -/
def DeliveryMeets (x : Byte) (f : Fault) (s : State) : Prop :=
  (s.faults = [] ∧ ∃ k, s.script = awaiting x k) ∨ (s.faults = [f] ∧ s.script = [])

theorem awaiting_ne_nil (x : Byte) (k : Nat) : awaiting x k ≠ [] := by simp [awaiting]

/-- The next batch of such a script. -/
theorem awaiting_eq_cons {x : Byte} {k : Nat} {b : List Stimulus} {bs : List (List Stimulus)}
    (h : awaiting x k = b :: bs) : (b = [.deliver x] ∧ bs = []) ∨ (b = [] ∧ ∃ j, bs = awaiting x j) := by
  cases k with
  | zero =>
    obtain ⟨rfl, rfl⟩ := List.cons.inj h
    exact .inl ⟨rfl, rfl⟩
  | succ j =>
    obtain ⟨rfl, rfl⟩ := List.cons.inj h
    exact .inr ⟨rfl, j, rfl⟩

/-- A script that is used up has reached the delivery. -/
theorem DeliveryMeets.faults_eq {x : Byte} {f : Fault} {s : State} (h : DeliveryMeets x f s) (hscript : s.script = []) :
    s.faults = [f] := by
  rcases h with ⟨-, k, hk⟩ | ⟨hfault, -⟩
  · exact absurd (hk.symm.trans hscript) (awaiting_ne_nil x k)
  · exact hfault

/-- A run that goes on has not reached it. -/
theorem DeliveryMeets.script_ne_nil {x : Byte} {f : Fault} {s : State} (h : DeliveryMeets x f s) (hlive : s.live = true) :
    s.script ≠ [] := by
  obtain ⟨hfaults, -⟩ := s.live_iff.1 hlive
  intro hscript
  exact absurd (hfaults.symm.trans (h.faults_eq hscript)) nofun

/-- The next batch is the delivery, or nothing. -/
theorem DeliveryMeets.script_cons {x : Byte} {f : Fault} {s : State} (h : DeliveryMeets x f s) {b : List Stimulus}
    {bs : List (List Stimulus)} (hscript : s.script = b :: bs) :
    s.faults = [] ∧ ((b = [.deliver x] ∧ bs = []) ∨ (b = [] ∧ ∃ j, bs = awaiting x j)) := by
  rcases h with ⟨hfaults, k, hk⟩ | ⟨-, hused⟩
  · exact ⟨hfaults, awaiting_eq_cons (hk.symm.trans hscript)⟩
  · exact absurd (hused.symm.trans hscript) nofun

/-! ### Main context's boundaries (R348, R381) -/

/-- A delivery that fails a check is the fault and nothing else (R348). -/
theorem deliverOp_fault {s : State} {x : Byte} {f : Fault} (hcheck : deliveryCheck s x = .error f) :
    deliverOp x s = s.raise f := by
  rw [deliverOp, deliverAt, deliverWith, hcheck]
  exact State.andThen_stopped _ _ (s.raise_live f)

/-- Main context runs, and a delivery of `x` to it, which its flag lets through, fails the check of `f`. -/
structure Refuses (x : Byte) (f : Fault) (s : State) : Prop where
  ctx : s.ctx = .main
  unmasked : x.toNat ≤ 31 ∨ s.cpu.ifl = true
  check : deliveryCheck s x = .error f

/-- The boundary at which such a delivery lands. -/
theorem Refuses.boundary_eq {x : Byte} {f : Fault} {s : State} (h : Refuses x f s) {during : List (List Stimulus)}
    (hscript : s.script = [.deliver x] :: during) :
    boundary s = ({ s with script := during, passed := s.passed + 1 } : State).raise f := by
  obtain ⟨hctx, hunmasked, hcheck⟩ := h
  rw [boundary_singleton hctx hscript]
  refine (if_pos ?_).trans (deliverOp_fault hcheck)
  simpa using hunmasked

/-- A boundary that nothing lands at. -/
theorem boundary_empty_batch {s : State} {during : List (List Stimulus)} (hctx : s.ctx = .main)
    (hscript : s.script = [] :: during) : boundary s = { s with script := during, passed := s.passed + 1 } := by
  simp only [boundary, hctx, if_true, envM, hscript, orderBatch_nil, stimuliWith_nil]

/-- The delivery that main context refuses waits in the script, or has been refused. -/
def MeetsRefusal (x : Byte) (f : Fault) (s : State) : Prop := Refuses x f s ∧ DeliveryMeets x f s

theorem boundary_meetsRefusal {x : Byte} {f : Fault} {s : State} (h : MeetsRefusal x f s) :
    MeetsRefusal x f (boundary s) := by
  obtain ⟨hrefuses, hmeets⟩ := id h
  obtain ⟨hctx, hunmasked, hcheck⟩ := id hrefuses
  cases hscript : s.script with
  | nil => rwa [boundary_nil s hscript]
  | cons b bs =>
    obtain ⟨hfaults, ⟨rfl, rfl⟩ | ⟨rfl, j, rfl⟩⟩ := hmeets.script_cons hscript
    · rw [hrefuses.boundary_eq hscript]
      exact ⟨⟨hctx, hunmasked, hcheck⟩, .inr ⟨congrArg (List.cons f) hfaults, rfl⟩⟩
    · rw [boundary_empty_batch hctx hscript]
      exact ⟨⟨hctx, hunmasked, hcheck⟩, .inl ⟨hfaults, j, rfl⟩⟩

theorem MeetsRefusal.setSlot {x : Byte} {f : Fault} {s : State} (h : MeetsRefusal x f s) (i : Fin 16) (e : Timeout) :
    MeetsRefusal x f (s.setSlot i e) := by
  obtain ⟨⟨hctx, hunmasked, hcheck⟩, hmeets⟩ := h
  exact ⟨⟨hctx, hunmasked, hcheck⟩, hmeets⟩

/-- The last step of an operation runs only where the delivery has not come. -/
theorem MeetsRefusal.andThen_last {x : Byte} {f : Fault} {t : State} {k : State → State} (h : MeetsRefusal x f t)
    (hk : ∀ u, (k u).script = u.script) : (t.andThen k).script = [] → MeetsRefusal x f (t.andThen k) := by
  obtain ⟨-, hmeets⟩ := id h
  exact State.andThen_elim (P := fun u => u.script = [] → MeetsRefusal x f u) (fun _ _ => h) fun hlive hused =>
    absurd ((hk t).symm.trans hused) (hmeets.script_ne_nil hlive)

/-! ### SCHEDULE (R230) -/

theorem armSlot_keeps {P : State → Prop} {bd : State → State} (hset : ∀ u i e, P u → P (u.setSlot i e))
    (hbd : ∀ u, P u → P (bd u)) (cb d : Word64) (i : Fin 16) {s : State} (h : P s) : P (armSlot bd cb d i s) := by
  unfold armSlot
  exact State.andThen_keeps (hbd _ (hset _ _ _ h)) fun u hu =>
    State.andThen_keeps (hbd _ (hset _ _ _ hu)) fun u hu => hbd _ (hset _ _ _ hu)

/-- What slot writes and the boundaries keep, the scan of SCHEDULE keeps. -/
theorem scheduleScan_keeps {P : State → Prop} {bd : State → State} (hset : ∀ u i e, P u → P (u.setSlot i e))
    (hbd : ∀ u, P u → P (bd u)) (cb d : Word64) (is : List (Fin 16)) {s : State} (h : P s) :
    P (scheduleScan bd cb d is s) := by
  induction is generalizing s with
  | nil => exact h
  | cons i is ih =>
    unfold scheduleScan
    split
    · exact State.andThen_keeps (hbd s h) fun u hu => ih hu
    · exact State.andThen_keeps (hbd s h) fun u hu => armSlot_keeps hset hbd cb d i hu

theorem exec_schedule_of_main (cb d : Word64) {s : State} (hctx : s.ctx = .main) :
    exec (.schedule cb d) s = .next (scheduleOp boundary true cb d s) := by
  have hguarded : (s.ctx == Context.main) = true := by rw [hctx]; rfl
  rw [← hguarded]
  exact admitted_next s .schedule (scheduleOp boundary (s.ctx == .main) cb d) (by rw [hctx]; rfl)

/-- The timer's stub is refused while a SCHEDULE of main context is in progress (R348 check 6, R390). -/
theorem deliveryCheck_timer {s : State} {x : Byte} (h : wiredTo s x 32) (hbusy : s.schedBusy = true) :
    deliveryCheck s x = .error .timeoutRace := by
  obtain ⟨hirq, hloaded, hgate, hlimit, hattr, hsel, hstub⟩ := h
  simp [deliveryCheck, hirq, hloaded, hgate, hattr, hsel, hstub, hbusy, Nat.not_lt.2 hlimit]

/-- Check 6 fails only while `sched_busy` is true. -/
theorem schedBusy_of_timeoutRace {s : State} {x : Byte} (h : deliveryCheck s x = .error .timeoutRace) :
    s.schedBusy = true := by
  unfold deliveryCheck at h
  dsimp only at h
  repeat' split at h
  all_goals simp_all

theorem scheduleOp_meetsRefusal {x : Byte} {f : Fault} (cb d : Word64) {s : State}
    (h : MeetsRefusal x f { s with schedBusy := true }) (hused : (scheduleOp boundary true cb d s).script = []) :
    MeetsRefusal x f (scheduleOp boundary true cb d s) := by
  have hscan {u : State} (hu : MeetsRefusal x f u) : MeetsRefusal x f (scheduleScan boundary cb d slots u) :=
    scheduleScan_keeps (fun _ i e h => h.setSlot i e) (fun _ => boundary_meetsRefusal) cb d slots hu
  revert hused
  unfold scheduleOp
  exact State.andThen_elim (P := fun u => u.script = [] → MeetsRefusal x f u) (fun _ _ => boundary_meetsRefusal h)
    fun _ => (hscan (boundary_meetsRefusal h)).andThen_last fun _ => rfl

/-! ### SET_GATE (R160) -/

/-- The vector whose gate is being written is refused, and no other for that reason (R348 check 3, R392). -/
theorem gateTear_iff {s : State} {x : Byte} :
    deliveryCheck s x = .error .gateTear ↔ s.inIrq = false ∧ s.cpu.idtLoaded = true ∧ s.gateBusy = some x := by
  refine ⟨fun h => ?_, fun ⟨hirq, hloaded, hbusy⟩ => by simp [deliveryCheck, hirq, hloaded, hbusy]⟩
  unfold deliveryCheck at h
  dsimp only at h
  repeat' split at h
  all_goals simp_all

theorem setGateOp_meetsRefusal {x : Byte} (h : Word64) (attr : Byte) {s : State}
    (hs : MeetsRefusal x .gateTear { s with gateBusy := some x }) (hused : (setGateOp x h attr s).script = []) :
    MeetsRefusal x .gateTear (setGateOp x h attr s) := by
  have hwrite {u : State} (m : Memory) (hu : MeetsRefusal x .gateTear u) :
      MeetsRefusal x .gateTear { u with mem := m } := by
    obtain ⟨⟨hctx, hunmasked, hcheck⟩, hmeets⟩ := hu
    have hbusy := gateTear_iff.1 hcheck
    exact ⟨⟨hctx, hunmasked, gateTear_iff.2 hbusy⟩, hmeets⟩
  revert hused
  unfold setGateOp
  exact State.andThen_elim (P := fun u => u.script = [] → MeetsRefusal x .gateTear u)
    (fun _ _ => boundary_meetsRefusal hs) fun _ =>
    (boundary_meetsRefusal (hwrite _ (boundary_meetsRefusal hs))).andThen_last fun _ => rfl

end Sys2Proof.Machine
end

section
/-! PROOFS. An exception or NMI that waits in the script of HANDLE, at whichever of its boundaries, is Fault(Reentry), whatever
HANDLE is doing (R202, R355): everything that runs in interrupt context leaves the script and `in_irq` to its boundaries. -/

namespace Sys2Proof.Machine

open Sys2Proof

/-! ### The state of the wait -/

/-- The part of the state that the wait for a delivery inside interrupt context speaks of. -/
structure Pace where
  inIrq : Bool
  faults : List Fault
  script : List (List Stimulus)

def State.pace (s : State) : Pace := { inIrq := s.inIrq, faults := s.faults, script := s.script }

theorem portWrite_pace (s : State) (p : Port) (v : Byte) : (s.portWrite p v).pace = s.pace := by
  unfold State.portWrite
  dsimp only
  repeat' split
  all_goals rfl

theorem portRead_pace (s : State) (p : Port) : (s.portRead p).pace = s.pace := by
  unfold State.portRead
  dsimp only
  repeat' split
  all_goals rfl

theorem pollBusy_pace (n : Nat) (s : State) : (pollBusy n s).pace = s.pace := by
  induction n generalizing s with
  | zero => exact portRead_pace s kbdStatus
  | succ n ih => exact (ih s.poll).trans (portRead_pace s kbdStatus)

/-- Inside HANDLE, the delivery of the exception or NMI `x` waits in the script, or has been the fault (R355). -/
structure AwaitsReentry (x : Byte) (s : State) : Prop where
  exception : x.toNat ≤ 31
  inIrq : s.inIrq = true
  meets : DeliveryMeets x .reentry s

/-- A write to other fields. -/
theorem AwaitsReentry.of_pace {x : Byte} {s t : State} (h : AwaitsReentry x s) (e : t.pace = s.pace) :
    AwaitsReentry x t := by
  obtain ⟨hx, hirq, hmeets⟩ := h
  obtain ⟨einIrq, efaults, escript⟩ := Pace.mk.inj e
  refine ⟨hx, einIrq.trans hirq, ?_⟩
  rwa [DeliveryMeets, efaults, escript]

/-! ### Boundaries (R202, R381) -/

/-- What lands at a boundary of interrupt context, and what is left of the script where the run goes on. -/
theorem AwaitsReentry.landed {x : Byte} {s : State} (h : AwaitsReentry x s) {b : List Stimulus}
    {bs : List (List Stimulus)} (hscript : s.script = b :: bs) :
    AwaitsReentry x (stimuliNested b { s with script := bs }) ∧
      (stimuliNested b { s with script := bs }).script = bs := by
  obtain ⟨hx, hirq, hmeets⟩ := h
  obtain ⟨hfaults, ⟨rfl, rfl⟩ | ⟨rfl, j, rfl⟩⟩ := hmeets.script_cons hscript
  · rw [stimuliNested_singleton, stimulusNested_exception _ _ hx]
    exact ⟨⟨hx, hirq, .inr ⟨congrArg (List.cons Fault.reentry) hfaults, rfl⟩⟩, rfl⟩
  · exact ⟨⟨hx, hirq, .inl ⟨hfaults, j, rfl⟩⟩, rfl⟩

section
variable {x : Byte} {s : State}

theorem envI_awaits (h : AwaitsReentry x s) : AwaitsReentry x (envI s) := by
  cases hscript : s.script with
  | nil => rwa [envI_nil s hscript]
  | cons b bs =>
    obtain ⟨hlanded, -⟩ := h.landed hscript
    simpa only [envI, hscript] using hlanded

/-- Past a boundary, what keeps the wait goes on with it. -/
theorem AwaitsReentry.envI_andThen (h : AwaitsReentry x s) {k : State → State}
    (hk : ∀ u, AwaitsReentry x u → AwaitsReentry x (k u)) : AwaitsReentry x ((envI s).andThen k) :=
  State.andThen_keeps (envI_awaits h) hk

/-- The same after a write to other fields. -/
theorem AwaitsReentry.write_andThen (h : AwaitsReentry x s) {t : State} {k : State → State}
    (hk : ∀ u, AwaitsReentry x u → AwaitsReentry x (k u)) (e : t.pace = s.pace := by rfl) :
    AwaitsReentry x ((envI t).andThen k) :=
  (h.of_pace e).envI_andThen hk

/-! ### The ring and the keyboard (R280, R321) -/

theorem rbPushOp_awaits (e : Event) (h : AwaitsReentry x s) : AwaitsReentry x (rbPushOp e s) := by
  unfold rbPushOp
  refine h.envI_andThen fun u hu => hu.envI_andThen fun u hu => hu.envI_andThen fun u hu => ?_
  split
  · exact hu
  · exact hu.envI_andThen fun u hu =>
      hu.write_andThen fun u hu => hu.of_pace rfl

/-- A batch of the script lands after each busy read. -/
theorem pollLoop_awaits (bs : List (List Stimulus)) (h : AwaitsReentry x s) (hscript : s.script = bs) :
    AwaitsReentry x (pollLoop bs s) := by
  have hpoll (u : State) : u.poll.pace = u.pace := portRead_pace u kbdStatus
  induction bs generalizing s with
  | nil =>
    unfold pollLoop pollQuiet
    split
    · exact h.of_pace (pollBusy_pace _ s)
    · exact h.of_pace (hpoll s)
  | cons b bs ih =>
    unfold pollLoop
    split
    · obtain ⟨hlanded, hleft⟩ := (h.of_pace (hpoll s)).landed ((congrArg Pace.script (hpoll s)).trans hscript)
      exact State.andThen_elim (fun _ => hlanded) fun _ => ih hlanded hleft
    · exact h.of_pace (hpoll s)

theorem ledWriteOp_awaits (h : AwaitsReentry x s) : AwaitsReentry x (ledWriteOp s) := by
  have hloop (u : State) (hu : AwaitsReentry x u) : AwaitsReentry x (pollLoop u.script u) := pollLoop_awaits _ hu rfl
  unfold ledWriteOp
  refine h.envI_andThen fun u hu => State.andThen_keeps (hloop u hu) fun u hu => hu.envI_andThen fun u hu => ?_
  refine AwaitsReentry.envI_andThen (hu.of_pace (portWrite_pace u _ _)) fun u hu => ?_
  exact State.andThen_keeps (hloop u hu) fun u hu => hu.envI_andThen fun u hu => hu.of_pace (portWrite_pace u _ _)

/-! ### KBD_DECODE (R261), from its last step to its first -/

theorem emitNonzero_awaits (e : Event) (h : AwaitsReentry x s) : AwaitsReentry x (emitNonzero e s) := by
  unfold emitNonzero
  split
  · exact h
  · exact rbPushOp_awaits e h

theorem decodeNumpad_awaits (code : BitVec 7) (h : AwaitsReentry x s) : AwaitsReentry x (decodeNumpad code s) := by
  unfold decodeNumpad
  split
  · exact emitNonzero_awaits _ h
  · exact h.envI_andThen fun u hu => emitNonzero_awaits _ hu

theorem decodeFn_awaits (rel : Bool) (code : BitVec 7) (h : AwaitsReentry x s) : AwaitsReentry x (decodeFn rel code s) := by
  unfold decodeFn
  split
  · split
    · exact h
    · exact rbPushOp_awaits _ h
  · refine h.envI_andThen fun u hu => ?_
    unfold decodePress
    split
    · exact hu
    · exact hu.envI_andThen fun u hu => decodeNumpad_awaits code hu

theorem decodeExt_awaits (rel wasExt : Bool) (code : BitVec 7) (h : AwaitsReentry x s) :
    AwaitsReentry x (decodeExt rel wasExt code s) := by
  unfold decodeExt
  split
  · split
    · exact h
    · exact emitNonzero_awaits _ h
  · exact h.envI_andThen fun u hu => decodeFn_awaits rel code hu

theorem decodeSticky_awaits (rel wasExt : Bool) (code : BitVec 7) (h : AwaitsReentry x s) :
    AwaitsReentry x (decodeSticky rel wasExt code s) := by
  unfold decodeSticky
  split
  · exact h.of_pace rfl
  · split
    · split
      · exact h
      · exact ledWriteOp_awaits (h.of_pace rfl)
    · exact h.envI_andThen fun u hu => decodeExt_awaits rel wasExt code hu

theorem decodeKey_awaits (b : Byte) (h : AwaitsReentry x s) : AwaitsReentry x (decodeKey b s) := by
  unfold decodeKey
  refine h.write_andThen fun u hu => ?_
  unfold decodeAlias
  split
  · exact rbPushOp_awaits _ hu
  · exact hu.envI_andThen fun u hu => decodeSticky_awaits _ _ _ hu

theorem decodeFrame_awaits (b : Byte) (h : AwaitsReentry x s) : AwaitsReentry x (decodeFrame b s) := by
  unfold decodeFrame
  dsimp only
  split
  · exact rbPushOp_awaits _ (h.of_pace rfl)
  · refine h.write_andThen fun u hu => ?_
    unfold decodeExtPrefix
    split
    · exact hu.of_pace rfl
    · exact hu.envI_andThen fun u hu => decodeKey_awaits b hu

theorem decodeOp_awaits (b : Byte) (h : AwaitsReentry x s) : AwaitsReentry x (decodeOp b s) := by
  unfold decodeOp
  split
  · exact rbPushOp_awaits _ (h.of_pace rfl)
  · refine h.envI_andThen fun u hu => ?_
    unfold decodePausePrefix
    split
    · exact hu.of_pace rfl
    · exact hu.envI_andThen fun u hu => decodeFrame_awaits b hu

theorem intakeOp_awaits (h : AwaitsReentry x s) : AwaitsReentry x (intakeOp s) := by
  unfold intakeOp
  exact AwaitsReentry.envI_andThen (h.of_pace (portRead_pace s kbdData)) fun u hu => decodeOp_awaits _ hu

/-! ### The scan of the timeout table, and its callbacks (R226, R228) -/

theorem callbackRequest_awaits (w : RequestWord) (h : AwaitsReentry x s) : AwaitsReentry x (callbackRequest w s) := by
  unfold callbackRequest
  cases decode w with
  | unknownOp => exact h.of_pace rfl
  | nonzeroUnused o => exact h.of_pace rfl
  | ok i =>
    cases i with
    | schedule cb d =>
      exact h.envI_andThen fun u hu => State.andThen_keeps
        (scheduleScan_keeps (fun _ _ _ hv => hv.of_pace rfl) (fun _ => envI_awaits) cb d slots hu) fun _ hv => hv
    | _ => exact h.of_pace rfl

theorem callbackRequests_awaits (ws : List RequestWord) (h : AwaitsReentry x s) :
    AwaitsReentry x (callbackRequests ws s) := by
  induction ws generalizing s with
  | nil => exact h
  | cons w ws ih =>
    exact State.andThen_keeps (callbackRequest_awaits w h) fun u hu => hu.envI_andThen fun u hu => ih hu

theorem invokeOp_awaits (cb : CallbackId) (h : AwaitsReentry x s) : AwaitsReentry x (invokeOp cb s) := by
  unfold invokeOp
  refine h.write_andThen fun u hu =>
    State.andThen_keeps (callbackRequests_awaits _ hu) fun u hu => ?_
  split <;> exact hu.of_pace rfl

theorem fireSlot_awaits (i : Fin 16) (h : AwaitsReentry x s) : AwaitsReentry x (fireSlot i s) := by
  unfold fireSlot
  exact h.write_andThen fun u hu => invokeOp_awaits _ hu

theorem advanceSlots_awaits (is : List (Fin 16)) (h : AwaitsReentry x s) : AwaitsReentry x (advanceSlots is s) := by
  induction is generalizing s with
  | nil => exact h
  | cons i is ih =>
    unfold advanceSlots
    refine State.andThen_keeps (State.andThen_keeps ?_ fun _ => envI_awaits) fun u hu => ih hu
    split
    · exact h.envI_andThen fun u hu => fireSlot_awaits i hu
    · exact h

theorem tickOp_awaits (h : AwaitsReentry x s) : AwaitsReentry x (tickOp s) := by
  unfold tickOp
  exact h.write_andThen fun u hu => advanceSlots_awaits slots hu

/-! ### HANDLE (R200) -/

theorem eoiOp_awaits (line : Byte) (h : AwaitsReentry x s) : AwaitsReentry x (eoiOp line s) := by
  unfold eoiOp
  refine AwaitsReentry.envI_andThen ?_ fun u hu => hu.of_pace (portWrite_pace u _ _)
  split
  · exact h.of_pace (portWrite_pace s _ _)
  · exact h

theorem lineWork_awaits (line : Byte) (h : AwaitsReentry x s) : AwaitsReentry x (lineWork line s) := by
  unfold lineWork
  split
  · exact tickOp_awaits h
  · split
    · exact intakeOp_awaits h
    · exact h

theorem handleVector_awaits (v : Byte) (h : AwaitsReentry x s) : AwaitsReentry x (handleVector v s) := by
  unfold handleVector
  split
  · exact h.of_pace rfl
  · split
    · exact State.andThen_keeps (lineWork_awaits _ h) fun u hu => hu.envI_andThen fun u hu => eoiOp_awaits _ hu
    · exact h.of_pace rfl

/-- HANDLE ends with `in_irq` false only where the delivery has not come. -/
theorem handleOp_awaits (v : Byte) (h : AwaitsReentry x { s with inIrq := true }) (hused : (handleOp v s).script = []) :
    AwaitsReentry x (handleOp v s) := by
  revert hused
  unfold handleOp
  refine State.andThen_elim (P := fun u => u.script = [] → AwaitsReentry x u) (fun _ _ => envI_awaits h) fun _ => ?_
  have hwork := handleVector_awaits v (envI_awaits h)
  refine State.andThen_elim (P := fun u => u.script = [] → AwaitsReentry x u) (fun _ _ => hwork) fun _ => ?_
  have hlast := envI_awaits hwork
  exact State.andThen_elim (P := fun u => u.script = [] → AwaitsReentry x u) (fun _ _ => hlast) fun hlive hused =>
    absurd hused (hlast.meets.script_ne_nil hlive)

end

/-! ### The obligation -/

/-- Settles O55: what the operation does up to the boundary keeps the delivery waiting and its refusal in force, and the
fault it is there stops the operation. -/
theorem deliveryInsideOperationFaults : Obligations.DeliveryInsideOperationFaults := by
  unfold Obligations.DeliveryInsideOperationFaults
  intro v x cb d h attr k s hlive hscript
  obtain ⟨hfaults, -⟩ := s.live_iff.1 hlive
  refine ⟨fun hctx hunmasked hwired => ?_, fun hctx hunmasked hirq hloaded => ?_, fun hctx hx => ?_⟩
  · have hrefuses : Refuses x .timeoutRace { s with schedBusy := true } :=
      ⟨hctx, hunmasked, deliveryCheck_timer hwired rfl⟩
    rw [exec_schedule_of_main cb d hctx]
    refine ⟨?_, ?_⟩
    · rintro rfl
      rw [scheduleOp, if_pos rfl, hrefuses.boundary_eq hscript, State.andThen_stopped _ _ (State.raise_live _ _)]
      simp only [State.raise, hfaults]
    · rintro t ⟨⟩ hused
      obtain ⟨⟨-, -, hcheck⟩, hmeets⟩ := scheduleOp_meetsRefusal cb d ⟨hrefuses, .inl ⟨hfaults, k, hscript⟩⟩ hused
      exact ⟨hmeets.faults_eq hused, schedBusy_of_timeoutRace hcheck⟩
  · have hrefuses : Refuses x .gateTear { s with gateBusy := some x } :=
      ⟨hctx, hunmasked, gateTear_iff.2 ⟨hirq, hloaded, rfl⟩⟩
    rw [exec_setGate_of_main x h attr hctx]
    refine ⟨?_, ?_⟩
    · rintro rfl
      rw [setGateOp_of_boundary_stopped h attr (hrefuses.boundary_eq hscript) (State.raise_live _ _)]
      simp only [State.raise, hfaults]
    · rintro t ⟨⟩ hused
      obtain ⟨⟨-, -, hcheck⟩, hmeets⟩ :=
        setGateOp_meetsRefusal h attr ⟨hrefuses, .inl ⟨hfaults, k, hscript⟩⟩ hused
      obtain ⟨-, -, hbusy⟩ := gateTear_iff.1 hcheck
      exact ⟨hmeets.faults_eq hused, hbusy⟩
  · rw [exec_handle_of_environment v hctx]
    refine ⟨?_, ?_⟩
    · rintro rfl
      have hboundary : envI { s with inIrq := true } = ({ s with inIrq := true, script := [] } : State).raise .reentry := by
        have hnext : s.script = [[.deliver x]] := hscript
        simp only [envI, hnext, stimuliNested_singleton, stimulusNested_exception _ _ hx]
      rw [handleOp, hboundary, State.andThen_stopped _ _ (State.raise_live _ _)]
      simp only [State.raise, hfaults]
    · rintro t ⟨⟩ hused
      have hend := handleOp_awaits v ⟨hx, rfl, .inl ⟨hfaults, k, hscript⟩⟩ hused
      exact ⟨hend.meets.faults_eq hused, hend.inIrq⟩

end Sys2Proof.Machine
end

section
/-! PROOFS. An uninterrupted SCHEDULE (R230), of main context and of a callback: the scan for the first inactive slot, and
the slot it arms; and where there is none, nothing (R231). -/

namespace Sys2Proof.Machine

open Sys2Proof

/-! ### The first inactive slot (R230 steps 2 to 5) -/

/-- Slot `i` armed with the callback that `cb` denotes, `d` ticks from now (R230). -/
def State.armed (s : State) (cb d : Word64) (i : Fin 16) : State :=
  { s with tmo := s.tmo.set i { cb := callbackRef s.cfg cb, target := s.ticks + d, active := true } }

theorem State.setSlot_setSlot (s : State) (i : Fin 16) (e e' : Timeout) :
    (s.setSlot i e).setSlot i e' = s.setSlot i e' := by
  rw [State.setSlot, State.setSlot_tmo, Vector.set_set]
  rfl

theorem State.setSlot_getElem_self (s : State) (i : Fin 16) (e : Timeout) : (s.setSlot i e).tmo[i] = e :=
  Vector.getElem_set_self _

/-- Every slot stands between the lower ones and the higher ones. -/
theorem slots_split (i : Fin 16) :
    ∃ pre post, slots = pre ++ i :: post ∧ (∀ k ∈ pre, k < i) ∧ ∀ k ∈ post, i < k := by
  have hsorted : slots.Pairwise (· < ·) := by decide
  obtain ⟨pre, post, hslots⟩ := List.append_of_mem (mem_slots i)
  rw [hslots] at hsorted
  obtain ⟨-, hpost, hpre⟩ := List.pairwise_append.1 hsorted
  exact ⟨pre, post, hslots, fun k hk => hpre k hk i List.mem_cons_self, (List.pairwise_cons.1 hpost).1⟩

section
variable {bd : State → State} (hbd : ∀ u, u.Quiet → bd u = u)
include hbd

/-- The three writes of a slot (R230 steps 3 to 5) come to one, where nothing lands between them. -/
theorem armSlot_quiet (cb d : Word64) (i : Fin 16) {s : State} (hs : s.Quiet) : armSlot bd cb d i s = s.armed cb d i := by
  have hwrite (e : Timeout) : (s.setSlot i e).Quiet := hs
  have hgo (e : Timeout) (k : State → State) : (bd (s.setSlot i e)).andThen k = k (s.setSlot i e) := by
    rw [hbd _ (hwrite e), quiet_andThen _ _ (hwrite e)]
  rw [armSlot, hgo, State.setSlot_setSlot, hgo, State.setSlot_setSlot, hbd _ (hwrite _), State.setSlot_getElem_self,
    State.setSlot_getElem_self]
  rfl

/-- The scan passes active slots. -/
theorem scheduleScan_append_of_active (cb d : Word64) (is js : List (Fin 16)) {s : State} (hs : s.Quiet)
    (his : ∀ i ∈ is, s.tmo[i].active = true) : scheduleScan bd cb d (is ++ js) s = scheduleScan bd cb d js s := by
  induction is with
  | nil => rfl
  | cons i is ih =>
    rw [List.cons_append, scheduleScan, if_pos (his i (by simp)), hbd s hs, quiet_andThen _ _ hs]
    exact ih fun j hj => his j (by simp [hj])

theorem scheduleScan_of_full (cb d : Word64) {s : State} (hs : s.Quiet) (hfull : ∀ i : Fin 16, s.tmo[i].active = true) :
    scheduleScan bd cb d slots s = s := by
  simpa [scheduleScan] using scheduleScan_append_of_active hbd cb d slots [] hs fun i _ => hfull i

theorem scheduleScan_of_first_free (cb d : Word64) {i : Fin 16} {s : State} (hs : s.Quiet)
    (hfree : s.tmo[i].active = false) (hbelow : ∀ k : Fin 16, k < i → s.tmo[k].active = true) :
    scheduleScan bd cb d slots s = s.armed cb d i := by
  obtain ⟨pre, post, hslots, hpre, -⟩ := slots_split i
  rw [hslots, scheduleScan_append_of_active hbd cb d _ _ hs fun k hk => hbelow k (hpre k hk), scheduleScan,
    if_neg (by rw [hfree]; exact Bool.false_ne_true), hbd s hs, quiet_andThen _ _ hs, armSlot_quiet hbd cb d i hs]

/-- A guarded SCHEDULE is its scan, with `sched_busy` true meanwhile (R230 steps 1 and 6, R40). -/
theorem scheduleOp_guarded_quiet {cb d : Word64} {s t : State} (hs : s.Quiet)
    (hscan : scheduleScan bd cb d slots { s with schedBusy := true } = t) (ht : t.Quiet) :
    scheduleOp bd true cb d s = { t with schedBusy := false } := by
  have hbusy : ({ s with schedBusy := true } : State).Quiet := hs
  rw [scheduleOp, if_pos rfl, hbd _ hbusy, quiet_andThen _ _ hbusy, hscan, quiet_andThen _ _ ht, if_pos rfl]

/-- Any other is its scan (R229). -/
theorem scheduleOp_unguarded_quiet {cb d : Word64} {s t : State} (hs : s.Quiet)
    (hscan : scheduleScan bd cb d slots s = t) (ht : t.Quiet) : scheduleOp bd false cb d s = t := by
  rw [scheduleOp, if_neg Bool.false_ne_true, hbd _ hs, quiet_andThen _ _ hs, hscan, quiet_andThen _ _ ht,
    if_neg Bool.false_ne_true]

end

/-! ### The request -/

theorem boundary_quiet (s : State) (hs : s.Quiet) : boundary s = s := boundary_nil s hs.script_eq

theorem envI_quiet (s : State) (hs : s.Quiet) : envI s = s := envI_nil s hs.script_eq

/-- A callback's SCHEDULE is not guarded (R229). -/
theorem exec_schedule_of_callback (cb d : Word64) {s : State} (hctx : s.ctx = .callback) :
    exec (.schedule cb d) s = .next (scheduleOp boundary false cb d s) := by
  have hunguarded : (s.ctx == Context.main) = false := by rw [hctx]; rfl
  rw [← hunguarded]
  exact admitted_next s .schedule (scheduleOp boundary (s.ctx == .main) cb d) (by rw [hctx]; rfl)

/-- Settles O23: the scan stops at the first inactive slot, and what it arms there is the entry of R230. -/
theorem scheduleArmsFirstFreeSlot : Obligations.ScheduleArmsFirstFreeSlot := by
  unfold Obligations.ScheduleArmsFirstFreeSlot
  intro cb d i s hs hctx hfree hbelow
  rcases hctx with hctx | hctx
  · have hbusy : ({ s with schedBusy := true } : State).Quiet := hs
    have hscan := scheduleScan_of_first_free boundary_quiet cb d hbusy hfree hbelow
    rw [exec_schedule_of_main cb d hctx, if_pos hctx, scheduleOp_guarded_quiet boundary_quiet hs hscan hbusy]
    rfl
  · have hscan := scheduleScan_of_first_free boundary_quiet cb d hs hfree hbelow
    rw [exec_schedule_of_callback cb d hctx, if_neg (by rw [hctx]; decide),
      scheduleOp_unguarded_quiet boundary_quiet hs hscan hs]
    rfl

/-- Settles O24: a scan past sixteen active slots writes none. -/
theorem fullTimeoutTableDropsRequest : Obligations.FullTimeoutTableDropsRequest := by
  unfold Obligations.FullTimeoutTableDropsRequest
  intro cb d s hs hctx hfull
  rcases hctx with ⟨hctx, hidle⟩ | hctx
  · have hbusy : ({ s with schedBusy := true } : State).Quiet := hs
    have hscan := scheduleScan_of_full boundary_quiet cb d hbusy hfull
    rw [exec_schedule_of_main cb d hctx, scheduleOp_guarded_quiet boundary_quiet hs hscan hbusy, ← hidle]
  · have hscan := scheduleScan_of_full boundary_quiet cb d hs hfull
    rw [exec_schedule_of_callback cb d hctx, scheduleOp_unguarded_quiet boundary_quiet hs hscan hs]

end Sys2Proof.Machine
end

section
/-! PROOFS. The scan of the timeout table in interrupt context (R226, R228): TICK and ADVANCE where the callbacks issue no
request; and a scan with a callback that schedules, or that does not return. -/

namespace Sys2Proof.Machine

open Sys2Proof

/-! ### TICK and ADVANCE (R220, R226) -/

theorem exec_tick_of_interrupt {s : State} (hctx : s.ctx = .interrupt) : exec .tick s = .next (tickOp s) :=
  admitted_next s .tick tickOp (by rw [hctx]; rfl)

theorem exec_advance_of_interrupt {s : State} (hctx : s.ctx = .interrupt) : exec .advance s = .next (advanceOp s) :=
  admitted_next s .advance advanceOp (by rw [hctx]; rfl)

/-- Settles O20: both are the silent scan, TICK's at the new count. -/
theorem tickCountsAndFires : Obligations.TickCountsAndFires := by
  unfold Obligations.TickCountsAndFires
  intro s hs hctx hcbs
  rw [exec_tick_of_interrupt hctx, exec_advance_of_interrupt hctx, tickOp_silent hs hcbs, advanceOp_silent hs hcbs]
  exact ⟨⟨_, rfl, scannedAt_slots _ _, rfl⟩, ⟨_, rfl, scannedAt_slots _ _, rfl⟩⟩

/-! ### The first due entry (R226) -/

/-- A quiet scan passes the entries below the first due one, and fires that one. -/
theorem advanceOp_of_first_due {i : Fin 16} {s : State} (hs : s.Quiet) (hdue : due s.tmo[i] s.ticks = true)
    (hbelow : ∀ k : Fin 16, k < i → due s.tmo[k] s.ticks = false) :
    ∃ post, (∀ k ∈ post, i < k) ∧
      advanceOp s = ((fireSlot i s).andThen envI).andThen (advanceSlots post) := by
  obtain ⟨pre, post, hslots, hpre, hpost⟩ := slots_split i
  have hfires : s.fires i = true := hdue
  refine ⟨post, hpost, ?_⟩
  rw [advanceOp, hslots, advanceSlots_append_of_not_fires _ _ hs fun k hk => hbelow k (hpre k hk), advanceSlots,
    if_pos hfires, quiet_envI_andThen _ _ hs]

/-- The callback runs with its own entry deactivated. -/
theorem fireSlot_quiet (i : Fin 16) {s : State} (hs : s.Quiet) :
    fireSlot i s = invokeOp s.tmo[i].cb { s with tmo := deactivated i s.tmo } := by
  have hquiet : ({ s with tmo := deactivated i s.tmo } : State).Quiet := hs
  exact quiet_envI_andThen _ _ hquiet

/-! ### A callback that schedules (R229, R230) -/

theorem callbackRequests_schedule (cb d : Word64) {j : Fin 16} {s : State} (hs : s.Quiet)
    (hfree : s.tmo[j].active = false) (hbelow : ∀ k : Fin 16, k < j → s.tmo[k].active = true) :
    callbackRequests [encode (.schedule cb d)] s = s.armed cb d j := by
  have harmed : (s.armed cb d j).Quiet := hs
  have hrequest : callbackRequest (encode (.schedule cb d)) s = s.armed cb d j := by
    rw [callbackRequest, decode_encode]
    exact scheduleOp_unguarded_quiet envI_quiet hs (scheduleScan_of_first_free envI_quiet cb d hs hfree hbelow) harmed
  rw [callbackRequests, hrequest, quiet_andThen _ _ harmed, quiet_envI_andThen _ _ harmed, callbackRequests]

/-- The first free slot is at most the callback's own, which is free while the callback runs (R228). -/
theorem fireSlot_schedules {i j : Fin 16} {cb d : Word64} {s : State} (hs : s.Quiet)
    (hcb : s.cbs.lookup s.tmo[i].cb = some { requests := [encode (.schedule cb d)], returns := true })
    (hfree : j = i ∨ s.tmo[j].active = false) (hbelow : ∀ k : Fin 16, k < j → s.tmo[k].active = true) (hji : j ≤ i) :
    fireSlot i s = (s.fired i).armed cb d j := by
  have hdeactivated : ({ s with tmo := deactivated i s.tmo } : State).Quiet := hs
  have hcalling : (({ s with tmo := deactivated i s.tmo } : State).calling s.tmo[i].cb).Quiet := hs
  have hfree' : (deactivated i s.tmo)[j].active = false := by
    by_cases hj : j = i
    · rw [hj, deactivated_getElem_self]
    · rw [deactivated_getElem_of_ne _ hj]
      exact hfree.resolve_left hj
  have hbelow' (k : Fin 16) (hk : k < j) : (deactivated i s.tmo)[k].active = true := by
    rw [deactivated_getElem_of_ne _ (ne_of_lt (lt_of_lt_of_le hk hji))]
    exact hbelow k hk
  have hrequests := callbackRequests_schedule cb d hcalling hfree' hbelow'
  rw [fireSlot_quiet i hs, invokeOp_of_quiet hdeactivated hcb rfl (by rw [hrequests]; exact hs.live_eq), hrequests]
  rfl

theorem State.armed_getElem_of_ne {j k : Fin 16} (s : State) (cb d : Word64) (h : k ≠ j) :
    (s.armed cb d j).tmo[k] = s.tmo[k] :=
  Vector.getElem_set_ne j.isLt k.isLt fun e => h (Fin.ext e.symm)

/-- The only due entry's callback arms a slot that the scan has passed, so nothing else fires. -/
theorem advanceOp_of_callback_schedules {i j : Fin 16} {cb d : Word64} {s : State} (hs : s.Quiet)
    (hdue : ∀ k : Fin 16, due s.tmo[k] s.ticks = true ↔ k = i)
    (hcb : s.cbs.lookup s.tmo[i].cb = some { requests := [encode (.schedule cb d)], returns := true })
    (hfree : j = i ∨ s.tmo[j].active = false) (hbelow : ∀ k : Fin 16, k < j → s.tmo[k].active = true) (hji : j ≤ i) :
    advanceOp s = (s.fired i).armed cb d j := by
  have hother (k : Fin 16) (hk : k ≠ i) : due s.tmo[k] s.ticks = false := Bool.eq_false_iff.2 fun h => hk ((hdue k).1 h)
  obtain ⟨post, hpost, hscan⟩ := advanceOp_of_first_due hs ((hdue i).2 rfl) fun k hk => hother k (ne_of_lt hk)
  have harmed : ((s.fired i).armed cb d j).Quiet := hs
  have hpassed (k : Fin 16) (hk : k ∈ post) : ((s.fired i).armed cb d j).fires k = false := by
    have hik := hpost k hk
    rw [State.fires_eq_due, State.armed_getElem_of_ne _ cb d (ne_of_gt (lt_of_le_of_lt hji hik))]
    exact (congrArg (due · s.ticks) (deactivated_getElem_of_ne _ (ne_of_gt hik))).trans (hother k (ne_of_gt hik))
  rw [hscan, fireSlot_schedules hs hcb hfree hbelow hji, quiet_andThen _ _ harmed, quiet_envI_andThen _ _ harmed,
    advanceSlots_of_not_fires _ harmed hpassed]

/-! ### A callback that does not return (R228) -/

/-- It hangs where it runs, in its own context (log 17). -/
theorem invokeOp_hangs {cb : CallbackId} {s : State} (hs : s.Quiet)
    (hcb : s.cbs.lookup cb = some { requests := [], returns := false }) :
    invokeOp cb s = { s.calling cb with hang := some (.callback cb) } := by
  have htext : callbackText s.cbs cb s.freeCount = { requests := [], returns := false } := by simp [callbackText, hcb]
  have hcalling : (s.calling cb).Quiet := hs
  calc invokeOp cb s
      = (envI (s.calling cb)).andThen fun u => (callbackRequests [] u).andThen fun u =>
          { u with hang := some (.callback cb) } := by
        rw [invokeOp, htext]
        rfl
    _ = { s.calling cb with hang := some (.callback cb) } := by
        rw [quiet_envI_andThen _ _ hcalling, callbackRequests, quiet_andThen _ _ hcalling]

/-- The scan stops in the callback of the first due entry. -/
theorem advanceOp_of_callback_hangs {i : Fin 16} {s : State} (hs : s.Quiet) (hdue : due s.tmo[i] s.ticks = true)
    (hbelow : ∀ k : Fin 16, k < i → due s.tmo[k] s.ticks = false)
    (hcb : s.cbs.lookup s.tmo[i].cb = some { requests := [], returns := false }) :
    advanceOp s = { s.fired i with ctx := .callback, hang := some (.callback s.tmo[i].cb) } := by
  obtain ⟨post, -, hscan⟩ := advanceOp_of_first_due hs hdue hbelow
  have hdeactivated : ({ s with tmo := deactivated i s.tmo } : State).Quiet := hs
  have hfire : fireSlot i s = { s.fired i with ctx := .callback, hang := some (.callback s.tmo[i].cb) } :=
    (fireSlot_quiet i hs).trans (invokeOp_hangs hdeactivated hcb)
  have hhung : ({ s.fired i with ctx := .callback, hang := some (.callback s.tmo[i].cb) } : State).live = false := by
    simp [State.live]
  rw [hscan, hfire, State.andThen_stopped _ _ hhung, State.andThen_stopped _ _ hhung]

/-- Settles O21: the callback runs after its own entry was deactivated and below the slots still to come; where it hangs,
none of them is reached. -/
theorem callbackSchedulesDuringScan : Obligations.CallbackSchedulesDuringScan := by
  unfold Obligations.CallbackSchedulesDuringScan
  refine ⟨fun i j cb d s hs hctx hdue hcb hfree hbelow hji => ?_, fun i s hs hctx hdue hbelow hcb => ?_⟩
  · rw [exec_advance_of_interrupt hctx, advanceOp_of_callback_schedules hs hdue hcb hfree hbelow hji]
    rfl
  · rw [exec_advance_of_interrupt hctx, advanceOp_of_callback_hangs hs hdue hbelow hcb]
    rfl

end Sys2Proof.Machine
end

section
/-! PROOFS. What interrupt context leaves alone, whatever lands in it (R202): where main context stands, the boundaries that
main context's request has passed and the saved interrupt flag; and, but for TICK, the tick count. -/

namespace Sys2Proof.Machine

open Sys2Proof

/-! ### The part of the state -/

/-- What Enter leaves for Return (R352, R353): where main context stands, how many boundaries of its request have passed,
and the saved interrupt flag. -/
structure Standing where
  main : MainCtl
  passed : Nat
  savedIf : Bool

def State.standing (s : State) : Standing := { main := s.main, passed := s.passed, savedIf := s.cpu.savedIf }

/-- With the tick count, which TICK alone writes (R222). -/
structure Untouched where
  ticks : Word64
  standing : Standing

def State.untouched (s : State) : Untouched := { ticks := s.ticks, standing := s.standing }

section
variable {s t : State}

theorem OpOwned.untouched (h : OpOwned s t) : t.untouched = s.untouched := by
  simp only [State.untouched, State.standing, h.ticks, h.main, h.passed, h.savedIf]

/-- Going on keeps what the rest keeps. -/
theorem State.andThen_keeps_eq {α : Type} {f : State → α} {k : State → State} (h : f t = f s)
    (hk : ∀ u, f (k u) = f u) : f (t.andThen k) = f s :=
  State.andThen_elim (P := fun u => f u = f s) (fun _ => h) fun _ => (hk t).trans h

theorem andThen_untouched {k : State → State} (h : t.untouched = s.untouched) (hk : ∀ u, (k u).untouched = u.untouched) :
    (t.andThen k).untouched = s.untouched :=
  State.andThen_keeps_eq h hk

theorem envI_untouched (s : State) : (envI s).untouched = s.untouched := (envI_opOwned s).untouched

/-- Past a boundary, after a write to other fields. -/
theorem envI_andThen_untouched {k : State → State} (hk : ∀ u, (k u).untouched = u.untouched)
    (h : t.untouched = s.untouched := by rfl) : ((envI t).andThen k).untouched = s.untouched :=
  andThen_untouched ((envI_untouched t).trans h) hk

end

/-! ### Ports and the keyboard (R12, R280, R321) -/

theorem portWrite_untouched (s : State) (p : Port) (v : Byte) : (s.portWrite p v).untouched = s.untouched := by
  unfold State.portWrite
  dsimp only
  repeat' split
  all_goals rfl

theorem portRead_untouched (s : State) (p : Port) : (s.portRead p).untouched = s.untouched := by
  unfold State.portRead
  dsimp only
  repeat' split
  all_goals rfl

theorem rbPushOp_untouched (e : Event) (s : State) : (rbPushOp e s).untouched = s.untouched := by
  unfold rbPushOp
  refine envI_andThen_untouched fun u => envI_andThen_untouched fun u => envI_andThen_untouched fun u => ?_
  split
  · rfl
  · exact envI_andThen_untouched fun u => envI_andThen_untouched fun u => rfl

theorem pollBusy_untouched (n : Nat) (s : State) : (pollBusy n s).untouched = s.untouched := by
  induction n generalizing s with
  | zero => exact portRead_untouched s kbdStatus
  | succ n ih => exact (ih s.poll).trans (portRead_untouched s kbdStatus)

theorem pollLoop_untouched (bs : List (List Stimulus)) (s : State) : (pollLoop bs s).untouched = s.untouched := by
  have hpoll (u : State) : u.poll.untouched = u.untouched := portRead_untouched u kbdStatus
  induction bs generalizing s with
  | nil =>
    unfold pollLoop pollQuiet
    split
    · exact pollBusy_untouched _ s
    · exact hpoll s
  | cons b bs ih =>
    unfold pollLoop
    split
    · exact andThen_untouched ((stimuliNested_opOwned b _).untouched.trans (hpoll s)) ih
    · exact hpoll s

theorem ledWriteOp_untouched (s : State) : (ledWriteOp s).untouched = s.untouched := by
  have hloop (u : State) : (pollLoop u.script u).untouched = u.untouched := pollLoop_untouched _ u
  unfold ledWriteOp
  refine envI_andThen_untouched fun u => andThen_untouched (hloop u) fun u => envI_andThen_untouched fun u => ?_
  refine envI_andThen_untouched (fun u => ?_) (portWrite_untouched u _ _)
  exact andThen_untouched (hloop u) fun u => envI_andThen_untouched fun u => portWrite_untouched u _ _

/-! ### KBD_DECODE (R261), from its last step to its first -/

theorem emitNonzero_untouched (e : Event) (s : State) : (emitNonzero e s).untouched = s.untouched := by
  unfold emitNonzero
  split
  · rfl
  · exact rbPushOp_untouched e s

theorem decodeNumpad_untouched (code : BitVec 7) (s : State) : (decodeNumpad code s).untouched = s.untouched := by
  unfold decodeNumpad
  split
  · exact emitNonzero_untouched _ s
  · exact envI_andThen_untouched fun u => emitNonzero_untouched _ u

theorem decodeFn_untouched (rel : Bool) (code : BitVec 7) (s : State) :
    (decodeFn rel code s).untouched = s.untouched := by
  unfold decodeFn
  split
  · split
    · rfl
    · exact rbPushOp_untouched _ s
  · refine envI_andThen_untouched fun u => ?_
    unfold decodePress
    split
    · rfl
    · exact envI_andThen_untouched (decodeNumpad_untouched code)

theorem decodeExt_untouched (rel wasExt : Bool) (code : BitVec 7) (s : State) :
    (decodeExt rel wasExt code s).untouched = s.untouched := by
  unfold decodeExt
  split
  · split
    · rfl
    · exact emitNonzero_untouched _ s
  · exact envI_andThen_untouched (decodeFn_untouched rel code)

theorem decodeSticky_untouched (rel wasExt : Bool) (code : BitVec 7) (s : State) :
    (decodeSticky rel wasExt code s).untouched = s.untouched := by
  unfold decodeSticky
  split
  · rfl
  · split
    · split
      · rfl
      · exact ledWriteOp_untouched _
    · exact envI_andThen_untouched (decodeExt_untouched rel wasExt code)

theorem decodeKey_untouched (b : Byte) (s : State) : (decodeKey b s).untouched = s.untouched := by
  unfold decodeKey
  refine envI_andThen_untouched fun u => ?_
  unfold decodeAlias
  split
  · exact rbPushOp_untouched _ u
  · exact envI_andThen_untouched (decodeSticky_untouched _ _ _)

theorem decodeFrame_untouched (b : Byte) (s : State) : (decodeFrame b s).untouched = s.untouched := by
  unfold decodeFrame
  dsimp only
  split
  · exact rbPushOp_untouched _ _
  · refine envI_andThen_untouched fun u => ?_
    unfold decodeExtPrefix
    split
    · rfl
    · exact envI_andThen_untouched (decodeKey_untouched b)

theorem decodeOp_untouched (b : Byte) (s : State) : (decodeOp b s).untouched = s.untouched := by
  unfold decodeOp
  split
  · exact rbPushOp_untouched _ _
  · refine envI_andThen_untouched fun u => ?_
    unfold decodePausePrefix
    split
    · rfl
    · exact envI_andThen_untouched (decodeFrame_untouched b)

theorem intakeOp_untouched (s : State) : (intakeOp s).untouched = s.untouched := by
  unfold intakeOp
  exact envI_andThen_untouched (fun u => decodeOp_untouched _ u) (portRead_untouched s kbdData)

theorem eoiOp_untouched (line : Byte) (s : State) : (eoiOp line s).untouched = s.untouched := by
  unfold eoiOp
  refine envI_andThen_untouched (fun u => portWrite_untouched u _ _) ?_
  split
  · exact portWrite_untouched s _ _
  · rfl

end Sys2Proof.Machine
end

section
/-! PROOFS. What a scan of the timeout table leaves alone, whatever its callbacks do and whatever lands in it (R226, R227,
R233): the armed entries whose target is not reached, since SCHEDULE writes free slots only and the scan due ones. -/

namespace Sys2Proof.Machine

open Sys2Proof

/-! ### Pending entries -/

/-- Slot `i` is armed, and its target is not reached. -/
def State.pending (s : State) (i : Fin 16) : Prop := s.tmo[i].active = true ∧ s.ticks.toNat < s.tmo[i].target.toNat

/-- A scan that began in `s` and stands in `u` has changed no entry that was pending in `s`. -/
structure PendingKept (s u : State) : Prop where
  untouched : u.untouched = s.untouched
  pending : ∀ i, s.pending i → u.tmo[i] = s.tmo[i]

theorem PendingKept.refl (s : State) : PendingKept s s := ⟨rfl, fun _ _ => rfl⟩

section
variable {s u : State}

theorem PendingKept.ticks_eq (h : PendingKept s u) : u.ticks = s.ticks := congrArg Untouched.ticks h.untouched

/-- A write to other fields. -/
theorem PendingKept.write {v : State} (h : PendingKept s u) (htmo : v.tmo = u.tmo := by rfl)
    (huntouched : v.untouched = u.untouched := by rfl) : PendingKept s v :=
  ⟨huntouched.trans h.untouched, fun i hi => by rw [htmo]; exact h.pending i hi⟩

/-- A slot that is free was not pending. -/
theorem PendingKept.not_pending_of_free (h : PendingKept s u) {i : Fin 16} (hfree : u.tmo[i].active = false) :
    ¬ s.pending i := fun hi => by
  obtain ⟨hactive, -⟩ := id hi
  rw [h.pending i hi, hactive] at hfree
  exact Bool.noConfusion hfree

/-- A slot that fires was not pending. -/
theorem PendingKept.not_pending_of_fires (h : PendingKept s u) {i : Fin 16} (hfires : u.fires i = true) :
    ¬ s.pending i := fun hi => by
  obtain ⟨-, htarget⟩ := id hi
  rw [State.fires_eq_due, h.pending i hi, h.ticks_eq, due, Bool.and_eq_true, decide_eq_true_eq] at hfires
  obtain ⟨-, hreached⟩ := hfires
  exact Nat.not_le.2 htarget hreached

theorem PendingKept.setSlot (h : PendingKept s u) {j : Fin 16} (hj : ¬ s.pending j) (e : Timeout) :
    PendingKept s (u.setSlot j e) := by
  refine ⟨h.untouched, fun i hi => ?_⟩
  have hne : j.val ≠ i.val := fun e => hj (Fin.ext e ▸ hi)
  exact (Vector.getElem_set_ne j.isLt i.isLt hne).trans (h.pending i hi)

theorem envI_pendingKept (h : PendingKept s u) : PendingKept s (envI u) :=
  h.write (envI_opOwned u).tmo (envI_untouched u)

theorem PendingKept.envI_andThen (h : PendingKept s u) {k : State → State}
    (hk : ∀ v, PendingKept s v → PendingKept s (k v)) : PendingKept s ((envI u).andThen k) :=
  State.andThen_keeps (envI_pendingKept h) hk

/-! ### A callback's requests (R229, R230) -/

theorem armSlot_pendingKept (cb d : Word64) {j : Fin 16} (hj : ¬ s.pending j) (h : PendingKept s u) :
    PendingKept s (armSlot envI cb d j u) := by
  unfold armSlot
  exact (h.setSlot hj _).envI_andThen fun v hv => (hv.setSlot hj _).envI_andThen fun w hw =>
    envI_pendingKept (hw.setSlot hj _)

theorem scheduleScan_pendingKept (cb d : Word64) (is : List (Fin 16)) (h : PendingKept s u) :
    PendingKept s (scheduleScan envI cb d is u) := by
  induction is generalizing u with
  | nil => exact h
  | cons i is ih =>
    unfold scheduleScan
    split
    · exact h.envI_andThen fun v hv => ih hv
    · rename_i hfree
      exact h.envI_andThen fun v hv =>
        armSlot_pendingKept cb d (h.not_pending_of_free (Bool.eq_false_iff.2 hfree)) hv

theorem callbackRequest_pendingKept (w : RequestWord) (h : PendingKept s u) : PendingKept s (callbackRequest w u) := by
  unfold callbackRequest
  cases decode w with
  | unknownOp => exact h.write
  | nonzeroUnused o => exact h.write
  | ok i =>
    cases i with
    | schedule cb d =>
      exact h.envI_andThen fun v hv => State.andThen_keeps (scheduleScan_pendingKept cb d slots hv) fun _ hw => hw
    | _ => exact h.write

theorem callbackRequests_pendingKept (ws : List RequestWord) (h : PendingKept s u) :
    PendingKept s (callbackRequests ws u) := by
  induction ws generalizing u with
  | nil => exact h
  | cons w ws ih =>
    exact State.andThen_keeps (callbackRequest_pendingKept w h) fun v hv => hv.envI_andThen fun v hv => ih hv

/-! ### The scan (R226, R228) -/

theorem invokeOp_pendingKept (cb : CallbackId) (h : PendingKept s u) : PendingKept s (invokeOp cb u) := by
  unfold invokeOp
  refine PendingKept.envI_andThen h.write fun v hv =>
    State.andThen_keeps (callbackRequests_pendingKept _ hv) fun v hv => ?_
  split <;> exact hv.write

theorem fireSlot_pendingKept {i : Fin 16} (hi : ¬ s.pending i) (h : PendingKept s u) : PendingKept s (fireSlot i u) := by
  unfold fireSlot
  exact (h.setSlot hi _).envI_andThen fun v hv => invokeOp_pendingKept _ hv

theorem advanceSlots_pendingKept (is : List (Fin 16)) (h : PendingKept s u) : PendingKept s (advanceSlots is u) := by
  induction is generalizing u with
  | nil => exact h
  | cons i is ih =>
    unfold advanceSlots
    refine State.andThen_keeps (State.andThen_keeps ?_ fun _ => envI_pendingKept) fun v hv => ih hv
    split
    · rename_i hfires
      exact h.envI_andThen fun v hv => fireSlot_pendingKept (h.not_pending_of_fires hfires) hv
    · exact h

end

theorem advanceOp_pendingKept (s : State) : PendingKept s (advanceOp s) := advanceSlots_pendingKept slots (.refl s)

/-- Settles O22: the whole scan keeps what is pending where it begins. -/
theorem pendingTimeoutSurvivesScan : Obligations.PendingTimeoutSurvivesScan := by
  unfold Obligations.PendingTimeoutSurvivesScan
  intro s t i hctx hexec hactive htarget
  rw [exec_advance_of_interrupt hctx] at hexec
  cases hexec
  exact (advanceOp_pendingKept s).pending i ⟨hactive, htarget⟩

end Sys2Proof.Machine
end

section
/-! PROOFS. A delivery that passes the checks (R348, R352, R353): HANDLE leaves what Enter saved to Return, and `in_irq`
false, so that main context goes on where it stood. -/

namespace Sys2Proof.Machine

open Sys2Proof

/-! ### HANDLE (R200) -/

theorem tickOp_standing (s : State) : (tickOp s).standing = s.standing := by
  have hcounted : (envI { s with ticks := s.ticks + 1 }).standing = s.standing :=
    congrArg Untouched.standing (envI_untouched _)
  exact State.andThen_keeps_eq hcounted fun u => congrArg Untouched.standing (advanceOp_pendingKept u).untouched

theorem lineWork_standing (line : Byte) (s : State) : (lineWork line s).standing = s.standing := by
  unfold lineWork
  split
  · exact tickOp_standing s
  · split
    · exact congrArg Untouched.standing (intakeOp_untouched s)
    · rfl

theorem handleVector_standing (v : Byte) (s : State) : (handleVector v s).standing = s.standing := by
  unfold handleVector
  split
  · rfl
  · split
    · exact State.andThen_keeps_eq (lineWork_standing _ s) fun u =>
        congrArg Untouched.standing (envI_andThen_untouched (eoiOp_untouched _))
    · rfl

theorem handleOp_standing (v : Byte) (s : State) : (handleOp v s).standing = s.standing := by
  have henv (u : State) : (envI u).standing = u.standing := congrArg Untouched.standing (envI_untouched u)
  unfold handleOp
  exact State.andThen_keeps_eq (henv _) fun u => State.andThen_keeps_eq (handleVector_standing v u) fun u =>
    State.andThen_keeps_eq (henv u) fun u => rfl

/-- R208: `in_irq` is false where HANDLE has run to its end. -/
theorem handleOp_inIrq {v : Byte} {s : State} (h : (handleOp v s).live = true) : (handleOp v s).inIrq = false := by
  have stopped {u : State} (hu : u.live = false) : u.live = true → u.inIrq = false := fun hl => by simp [hu] at hl
  revert h
  unfold handleOp
  exact State.andThen_elim (P := fun u => u.live = true → u.inIrq = false) stopped fun _ =>
    State.andThen_elim (P := fun u => u.live = true → u.inIrq = false) stopped fun _ =>
    State.andThen_elim (P := fun u => u.live = true → u.inIrq = false) stopped fun _ _ => rfl

/-! ### The delivery (R348) -/

/-- A delivery whose HANDLE goes on to its end, and after which main context continues past what was delivered. -/
theorem deliverAt_returns {p : MainPoint} {v w : Byte} {s : State} (hwired : wiredTo s v w)
    (htimer : w = 32 → s.schedBusy = false) (hpast : v.toNat ≤ 31 → resumeAt s.cfg v p = .past)
    (hlive : (handleOp w s.enter).live = true) : deliverAt p v s = (handleOp w s.enter).leave := by
  have hdeliver : deliverWith handleOp v s = (handleOp w s.enter).leave := by
    simp only [deliverWith, deliveryCheck_wired s v w hwired htimer]
    exact State.andThen_live _ _ hlive
  rw [deliverAt, hdeliver, State.andThen_live _ _ ((State.leave_live _).trans hlive)]
  split
  · rename_i hv
    rw [hpast hv]
    rfl
  · rfl

/-- A delivery that is not masked lands (R348, log 12). -/
theorem stimulusWith_unmasked (deliver : Byte → State → State) {v : Byte} {s : State}
    (h : v.toNat ≤ 31 ∨ s.cpu.ifl = true) : stimulusWith deliver (.deliver v) s = deliver v s :=
  if_pos (by simpa using h)

/-- A delivery where main context stands between operations. -/
theorem step_delivery {s : State} {v : Byte} {during : List (List Stimulus)} {rest : List Input} (hs : s.Ready)
    (hin : s.inputs = .stim [.deliver v] during :: rest) (hunmasked : v.toNat ≤ 31 ∨ s.cpu.ifl = true) :
    step s = .next (s.finish (deliverAt (restPoint s rest) v { s with inputs := rest, script := during })) := by
  obtain ⟨hwf, ⟨hfaults, hhang, -, -⟩, -, hrunning, hpassed⟩ := hs
  have hpoint : State.point { s with inputs := rest, script := during } = restPoint s rest := by
    simp only [State.point, restPoint, hrunning, hpassed]
  have hland : stimulusWith deliverOp (.deliver v) { s with inputs := rest, script := during } =
      deliverOp v { s with inputs := rest, script := during } := stimulusWith_unmasked deliverOp hunmasked
  rw [step_of_faults_nil hwf hfaults, runStep_stim hhang hin, runBatch, orderBatch_singleton, stimuliWith_singleton,
    hland, deliverOp, hpoint]
  exact congrArg _ (finish_congr _ rfl)

/-- The end of a step whose delivery has returned. -/
theorem State.finish_leave {s u : State} {b : Bool} (hlive : u.live = true) (hirq : u.inIrq = s.inIrq)
    (hrunning : u.running = none) (hpassed : u.passed = 0) (hsaved : u.cpu.savedIf = b) :
    s.finish u.leave =
      { u with
        inputs := asInputs u.script ++ u.inputs
        script := []
        cpu := { u.cpu with ifl := b }
        ctx := .main
        main := u.main.wake } := by
  rw [State.finish_live _ _ ((State.leave_live u).trans hlive), ← hirq]
  rcases u with ⟨⟩
  subst hrunning hpassed hsaved
  rfl

theorem MainCtl.wake_of_not_halted {m : MainCtl} (h : ∀ start ms, m ≠ .halted start ms) : m.wake = m := by
  cases m with
  | halted start ms => exact absurd rfl (h start ms)
  | _ => rfl

/-- Settles O51: HANDLE runs between Enter and Return, which restores what Enter saved, and the step ends at rest. -/
theorem deliveryEntersHandlesReturns : Obligations.DeliveryEntersHandlesReturns := by
  unfold Obligations.DeliveryEntersHandlesReturns
  intro s u v w during rest hs hin hwired htimer hv hhandle hlive
  obtain ⟨-, -, -, hrunning, hpassed⟩ := id hs
  obtain ⟨hirq, -⟩ := id hwired
  have hpast (hle : v.toNat ≤ 31) : resumeAt s.cfg v (restPoint s rest) = .past := by
    rcases hv with ⟨-, hr⟩ | ⟨hge, -⟩
    · exact hr
    · omega
  have hu : handleOp w ({ s with inputs := rest, script := during } : State).enter = u := hhandle
  have hdeliver : deliverAt (restPoint s rest) v { s with inputs := rest, script := during } = u.leave :=
    hu ▸ deliverAt_returns hwired htimer hpast (hu ▸ hlive)
  have howned := hu ▸ handleOp_mainOwned w _
  have huirq : u.inIrq = false := hu ▸ handleOp_inIrq (hu ▸ hlive)
  obtain ⟨humain, hupassed, husaved⟩ := Standing.mk.inj (hu ▸ handleOp_standing w _)
  refine ⟨u.main.wake, ?_, fun start ms hhalted => ?_, fun hnot => ?_⟩
  · rw [step_delivery hs hin (hv.imp And.left And.right), hdeliver,
      State.finish_leave hlive (huirq.trans hirq.symm) (howned.running.trans hrunning) (hupassed.trans hpassed) husaved,
      howned.inputs]
    rfl
  · rw [humain]
    exact congrArg MainCtl.wake hhalted
  · rw [humain]
    exact MainCtl.wake_of_not_halted hnot

end Sys2Proof.Machine
end

section
/-! PROOFS. No request but TICK and HANDLE changes the tick count (R222): those of interrupt context leave it alone
whatever lands in them, and those of main context where nothing lands at their boundaries. -/

namespace Sys2Proof.Machine

open Sys2Proof

/-! ### Operations at whose boundaries nothing lands -/

/-- The tick count is `n`, and no stimulus waits for a step boundary. -/
structure StillAt (n : Word64) (s : State) : Prop where
  script : s.script = []
  ticks : s.ticks = n

section
variable {n : Word64} {s : State}

/-- A write to other fields. -/
theorem StillAt.write {t : State} (h : StillAt n s) (hscript : t.script = s.script := by rfl)
    (hticks : t.ticks = s.ticks := by rfl) : StillAt n t :=
  ⟨hscript.trans h.script, hticks.trans h.ticks⟩

theorem StillAt.boundary (h : StillAt n s) : StillAt n (boundary s) := by rwa [boundary_nil s h.script]

theorem StillAt.boundary_andThen (h : StillAt n s) {k : State → State} (hk : ∀ u, StillAt n u → StillAt n (k u)) :
    StillAt n ((Machine.boundary s).andThen k) :=
  State.andThen_keeps h.boundary hk

theorem setGateOp_stillAt (v : Byte) (a : Word64) (attr : Byte) (h : StillAt n s) : StillAt n (setGateOp v a attr s) := by
  unfold setGateOp
  exact StillAt.boundary_andThen h.write fun u hu => StillAt.boundary_andThen hu.write fun u hu => hu.write

theorem zeroSlots_stillAt (vs : List Nat) (h : StillAt n s) : StillAt n (zeroSlots vs s) := by
  induction vs generalizing s with
  | nil => exact h
  | cons v vs ih => exact StillAt.boundary_andThen h.write fun u hu => ih hu

theorem installStubs_stillAt (vs : List Nat) (h : StillAt n s) : StillAt n (installStubs vs s) := by
  induction vs generalizing s with
  | nil => exact h
  | cons v vs ih =>
    exact State.andThen_keeps (setGateOp_stillAt _ _ _ h) fun u hu => hu.boundary_andThen fun u hu => ih hu

theorem idtInitOp_stillAt (h : StillAt n s) : StillAt n (idtInitOp s) := by
  unfold idtInitOp
  split
  · exact h.write
  · refine h.boundary_andThen fun u hu => State.andThen_keeps (zeroSlots_stillAt _ hu) fun u hu => ?_
    refine State.andThen_keeps (installStubs_stillAt _ hu) fun u hu => ?_
    refine State.andThen_keeps (installStubs_stillAt _ hu) fun u hu => ?_
    exact StillAt.boundary_andThen hu.write fun u hu => hu.write

theorem StillAt.portWrite (h : StillAt n s) (p : Port) (v : Byte) : StillAt n (s.portWrite p v) :=
  h.write (congrArg Pace.script (portWrite_pace s p v)) (congrArg Untouched.ticks (portWrite_untouched s p v))

theorem StillAt.portRead (h : StillAt n s) (p : Port) : StillAt n (s.portRead p) :=
  h.write (congrArg Pace.script (portRead_pace s p)) (congrArg Untouched.ticks (portRead_untouched s p))

theorem remapWrites_stillAt (ws : List (Port × Byte)) (h : StillAt n s) : StillAt n (remapWrites ws s) := by
  induction ws generalizing s with
  | nil => exact h
  | cons w ws ih => exact (h.portWrite w.1 w.2).boundary_andThen fun u hu => ih hu

theorem picRemapOp_stillAt (o1 o2 : Byte) (h : StillAt n s) : StillAt n (picRemapOp o1 o2 s) := by
  unfold picRemapOp
  split
  · exact h.write
  · split
    · exact h.write
    · refine h.boundary_andThen fun u hu => (hu.portRead _).boundary_andThen fun u hu => ?_
      refine (hu.portRead _).boundary_andThen fun u hu => ?_
      exact State.andThen_keeps (remapWrites_stillAt _ hu) fun u hu => hu.write

theorem scheduleOp_stillAt (guarded : Bool) (cb d : Word64) (h : StillAt n s) :
    StillAt n (scheduleOp boundary guarded cb d s) := by
  have hbegun : StillAt n (if guarded then { s with schedBusy := true } else s) := by
    split
    · exact h.write
    · exact h
  unfold scheduleOp
  refine hbegun.boundary_andThen fun u hu => State.andThen_keeps
    (scheduleScan_keeps (fun _ _ _ hv => hv.write) (fun _ hv => hv.boundary) cb d slots hu) fun u hu => ?_
  split
  · exact hu.write
  · exact hu

theorem sleepOp_stillAt (ms : Word64) (h : StillAt n s) : StillAt n (sleepOp ms s) := by
  unfold sleepOp
  refine h.boundary_andThen fun u hu => ?_
  split
  · exact hu
  · split <;> exact hu.write

theorem rbPopOp_stillAt (h : StillAt n s) : StillAt n (rbPopOp s) := by
  unfold rbPopOp
  refine h.boundary_andThen fun u hu => hu.boundary_andThen fun u hu => ?_
  split
  · exact hu.write
  · exact hu.boundary_andThen fun u hu => hu.boundary_andThen fun u hu =>
      StillAt.boundary_andThen hu.write fun u hu => hu.write

end

/-! ### Every request but TICK and HANDLE -/

/-- A request is its operation's body, or a refusal (R131, R229), which counts nothing. -/
theorem admitted_ticks {s t : State} {o : Op} {body : State → State} (h : s.admitted o body = .next t)
    (hbody : (body s).ticks = s.ticks) : t.ticks = s.ticks := by
  unfold State.admitted at h
  split at h
  · cases h; exact hbody
  · cases h; rfl

theorem exec_ticks {i : Instr} {s t : State} (hscript : s.script = []) (htick : i.op ≠ .tick) (hhandle : i.op ≠ .handle)
    (h : exec i s = .next t) : t.ticks = s.ticks := by
  have still : StillAt s.ticks s := ⟨hscript, rfl⟩
  cases i with
  | tick => exact absurd rfl htick
  | handle v => exact absurd rfl hhandle
  | setGate v a attr => exact admitted_ticks h (setGateOp_stillAt v a attr still).ticks
  | idtInit => exact admitted_ticks h (idtInitOp_stillAt still).ticks
  | picRemap o1 o2 => exact admitted_ticks h (picRemapOp_stillAt o1 o2 still).ticks
  | schedule cb d => exact admitted_ticks h (scheduleOp_stillAt _ cb d still).ticks
  | sleep ms => exact admitted_ticks h (sleepOp_stillAt ms still).ticks
  | rbPop => exact admitted_ticks h (rbPopOp_stillAt still).ticks
  | uptime => exact admitted_ticks h rfl
  | format ms => exact admitted_ticks h rfl
  | picEoi line => exact admitted_ticks h (congrArg Untouched.ticks (eoiOp_untouched line s))
  | advance => exact admitted_ticks h (advanceOp_pendingKept s).ticks_eq
  | kbdIntake => exact admitted_ticks h (congrArg Untouched.ticks (intakeOp_untouched s))
  | kbdDecode b => exact admitted_ticks h (congrArg Untouched.ticks (decodeOp_untouched b s))
  | kbdLedWrite => exact admitted_ticks h (congrArg Untouched.ticks (ledWriteOp_untouched s))
  | rbPush e => exact admitted_ticks h (congrArg Untouched.ticks (rbPushOp_untouched e s))

/-- Settles O29: of a quiet state only the empty script is needed. -/
theorem onlyTimerPathCounts : Obligations.OnlyTimerPathCounts := by
  unfold Obligations.OnlyTimerPathCounts
  exact fun i s t hs htick hhandle h => exec_ticks hs.script_eq htick hhandle h

end Sys2Proof.Machine
end

section
/-! PROOFS. SLEEP and main context's steps in it (R236, R237), and the two requests that only read: UPTIME (R240) and FORMAT
(R241). -/

namespace Sys2Proof.Machine

open Sys2Proof

/-! ### SLEEP (R236) -/

theorem sleepDone_iff (start ms now : Word64) : sleepDone start ms now = true ↔ ms.toNat ≤ (now - start).toNat :=
  decide_eq_true_iff

/-- No tick has been counted at the start, so the first check passes `sleep 0` only. -/
theorem sleepDone_at_start_iff (start ms : Word64) : sleepDone start ms start = true ↔ ms = 0 := by
  rw [sleepDone_iff, BitVec.sub_self]
  exact Nat.le_zero.trans (BitVec.toNat_eq (y := 0)).symm

theorem exec_sleep_quiet (ms : Word64) {s : State} (hs : s.Quiet) (hctx : s.ctx = .main ∨ s.ctx = .interrupt) :
    exec (.sleep ms) s = .next
      (if ms = 0 then s
       else if s.ctx = .main then { s with main := .sleepHalt s.ticks ms }
       else { s with hang := some .sleep }) := by
  have hadmits : opAdmits .sleep s.ctx = true := by rcases hctx with e | e <;> rw [e] <;> rfl
  rw [show exec (.sleep ms) s = s.admitted .sleep (sleepOp ms) from rfl, admitted_next _ _ _ hadmits, sleepOp,
    quiet_boundary_andThen _ _ hs]
  simp only [sleepDone_at_start_iff]

/-- Settles O25: the three branches of the quiet SLEEP. -/
theorem sleepChecksBeforeHalting : Obligations.SleepChecksBeforeHalting := by
  unfold Obligations.SleepChecksBeforeHalting
  intro ms s hs
  refine ⟨fun hms hctx => ?_, fun hms hctx => ?_, fun hms hctx => ?_⟩
  · rw [exec_sleep_quiet ms hs hctx, if_pos hms]
  · rw [exec_sleep_quiet ms hs (.inl hctx), if_neg hms, if_pos hctx]
  · rw [exec_sleep_quiet ms hs (.inr hctx), if_neg hms, if_neg (by rw [hctx]; decide)]

/-! ### Main context's own steps -/

/-- A step of main context's own from a ready state, where it leads to a ready state. -/
theorem step_mainStep {s t : State} (hs : s.Ready) (hin : s.inputs = []) (hstep : mainStep s = t) (ht : t.Ready)
    (hirq : t.inIrq = s.inIrq) : step s = .next t := by
  obtain ⟨hwf, ⟨hfaults, hhang, -, hscript⟩, -⟩ := hs
  have hsame : ({ s with script := [] } : State) = s := by rw [← hscript]
  have hrun : runStep s = .next (runMain [] s) := by simp [runStep, hhang, hin]
  rw [step_of_faults_nil hwf hfaults, hrun, runMain, hsame, hstep, ht.finish_eq hirq]

/-- Settles O26: each position of the sleep is a branch of `mainStep`. -/
theorem sleepingMainSteps : Obligations.SleepingMainSteps := by
  unfold Obligations.SleepingMainSteps
  intro s start ms hs hin
  have moved (m : MainCtl) : ({ s with main := m } : State).Ready := hs
  refine ⟨fun hmain hdone => ?_, fun hmain hleft => ?_, fun hmain => ?_, fun hmain => ?_⟩
  · refine step_mainStep hs hin ?_ (moved .idle) rfl
    simp only [mainStep, hmain, (sleepDone_iff _ _ _).2 hdone, if_true]
  · refine step_mainStep hs hin ?_ (moved (.sleepHalt start ms)) rfl
    simp only [mainStep, hmain, sleepDone_iff, Nat.not_le.2 hleft, if_false]
  · refine step_mainStep hs hin ?_ (moved (.halted start ms)) rfl
    simp only [mainStep, hmain]
  · refine step_mainStep hs hin ?_ hs rfl
    simp only [mainStep, hmain]

/-! ### UPTIME and FORMAT -/

/-- Settles O27: each of the three contexts is admitted, and `uptimeOp` writes the returned value only. -/
theorem uptimeReturnsTicks : Obligations.UptimeReturnsTicks := by
  unfold Obligations.UptimeReturnsTicks
  intro s hctx
  have hadmits : opAdmits .uptime s.ctx = true := by rcases hctx with e | e | e <;> rw [e] <;> rfl
  exact admitted_next s .uptime uptimeOp hadmits

/-- R241: a time split into hours, minutes, seconds and milliseconds. -/
theorem timeOf_spec (ms : Word64) :
    ∃ h m sec x, timeOf ms = .time h m sec x ∧
      ms.toNat = ((h * 60 + m) * 60 + sec) * 1000 + x ∧ m < 60 ∧ sec < 60 ∧ x < 1000 :=
  ⟨_, _, _, _, rfl, by omega, by omega, by omega, by omega⟩

/-- Settles O28: each of the three contexts is admitted, and what is returned is the split of the operand. -/
theorem formatSplitsTime : Obligations.FormatSplitsTime := by
  unfold Obligations.FormatSplitsTime
  intro ms s hctx
  have hadmits : opAdmits .format s.ctx = true := by rcases hctx with e | e | e <;> rw [e] <;> rfl
  obtain ⟨h, m, sec, x, htime, hsplit⟩ := timeOf_spec ms
  refine ⟨h, m, sec, x, ?_, hsplit⟩
  rw [← htime]
  exact admitted_next s .format (formatOp ms) hadmits

end Sys2Proof.Machine
end

section
/-! PROOFS. The two fields of a scancode (R127), the codes of R267 to R269, and that the decoder's tables are the rows of
R290 to R293, code by code. -/

namespace Sys2Proof.Machine

open Sys2Proof

/-! ### The fields of a scancode (R127) -/

theorem scRelease_eq_decide (b : Byte) : scRelease b = decide (0x80 ≤ b.toNat) := BitVec.msb_eq_decide b

theorem scRelease_of_press {b : Byte} (hb : b.toNat < 0x80) : scRelease b = false := by
  rw [scRelease_eq_decide, decide_eq_false (Nat.not_le.2 hb)]

theorem scRelease_of_release {b : Byte} (hb : 0x80 ≤ b.toNat) : scRelease b = true := by
  rw [scRelease_eq_decide, decide_eq_true hb]

/-- A press is its code, widened. -/
theorem eq_setWidth_scCode {b : Byte} (hb : b.toNat < 0x80) : b = (scCode b).setWidth 8 := by
  unfold scCode
  bv_omega

theorem code_eq_of_toNat {code : BitVec 7} {n : Nat} (h : code.toNat = n) : code = BitVec.ofNat 7 n := by
  rw [← h, BitVec.ofNat_toNat, BitVec.setWidth_eq]

/-! ### Aliases, modifiers and locks (R267 to R269) -/

theorem aliasEvent_eq_none {code : BitVec 7} (hsysrq : code ≠ 0x54) (hequals : code ≠ 0x59) :
    aliasEvent code = none := by
  unfold aliasEvent
  split
  · rename_i hcode; exact absurd (code_eq_of_toNat hcode) hsysrq
  · rename_i hcode; exact absurd (code_eq_of_toNat hcode) hequals
  · rfl

theorem aliasEvent_eq_none_of_press {b : Byte} (hb : b.toNat < 0x80) (hsysrq : b ≠ 0x54) (hequals : b ≠ 0x59) :
    aliasEvent (scCode b) = none :=
  aliasEvent_eq_none (fun h => hsysrq (by rw [eq_setWidth_scCode hb, h]; rfl))
    fun h => hequals (by rw [eq_setWidth_scCode hb, h]; rfl)

theorem aliasEvent_ne_evNone {code : BitVec 7} {e : Event} (h : aliasEvent code = some e) : e ≠ evNone := by
  unfold aliasEvent at h
  split at h
  · cases h; decide
  · cases h; decide
  · exact nomatch h

theorem modifierOf_eq_none {code : BitVec 7} (h : code ∉ stickyCodes) : modifierOf code = none := by
  unfold modifierOf
  split
  case h_5 => rfl
  all_goals
    rename_i hcode
    exact absurd (code_eq_of_toNat hcode ▸ by decide) h

theorem lockOf_eq_none {code : BitVec 7} (h : code ∉ stickyCodes) : lockOf code = none := by
  unfold lockOf
  split
  case h_4 => rfl
  all_goals
    rename_i hcode
    exact absurd (code_eq_of_toNat hcode ▸ by decide) h

/-! ### The rows of a table (R290 to R293) -/

/-- The codes a table lists, each with what it lists for it, in code order. -/
def tableRows {α : Type} (table : BitVec 7 → Option α) : List (BitVec 7 × α) :=
  (List.range 128).filterMap fun n => (table (BitVec.ofNat 7 n)).map fun a => (BitVec.ofNat 7 n, a)

theorem mem_tableRows_iff {α : Type} (table : BitVec 7 → Option α) (code : BitVec 7) (a : α) :
    (code, a) ∈ tableRows table ↔ table code = some a := by
  simp only [tableRows, List.mem_filterMap, List.mem_range, Option.map_eq_some_iff, Prod.mk.injEq]
  constructor
  · rintro ⟨n, -, a', ha, rfl, rfl⟩
    exact ha
  · intro ha
    have hcode := code_eq_of_toNat (code := code) rfl
    exact ⟨code.toNat, code.isLt, a, hcode ▸ ha, hcode.symm, rfl⟩

theorem mem_functionRows_iff (code : BitVec 7) (e : Event) : (code, e) ∈ functionRows ↔ fnEvent code = some e :=
  have rows : functionRows = tableRows fnEvent := rfl
  rows ▸ mem_tableRows_iff fnEvent code e

theorem mem_keypadRows_iff (code : BitVec 7) (on off : Event) :
    (code, on, off) ∈ keypadRows ↔ numpadEvents code = some (on, off) :=
  have rows : keypadRows = tableRows numpadEvents := rfl
  rows ▸ mem_tableRows_iff numpadEvents code (on, off)

/-- The extended table without the entries that emit nothing (R275). -/
def extendedEntry (code : BitVec 7) : Option Event := if tExt code = 0 then none else some (tExt code)

theorem mem_extendedRows_iff (code : BitVec 7) (e : Event) : (code, e) ∈ extendedRows ↔ tExt code = e ∧ e ≠ 0 := by
  have rows : extendedRows = tableRows extendedEntry := rfl
  rw [rows, mem_tableRows_iff, extendedEntry]
  split
  · next hzero => exact iff_of_false nofun fun ⟨he, hne⟩ => hne (he.symm.trans hzero)
  · next hne => rw [Option.some_inj, and_iff_left_of_imp fun he => he ▸ hne]

/-- The two main tables without the codes that emit nothing in either (R275). -/
def mainEntries (code : BitVec 7) : Option (Event × Event) :=
  if tableEntry tUnshift code = 0 ∧ tableEntry tShift code = 0 then none
  else some (tableEntry tUnshift code, tableEntry tShift code)

theorem mem_mainRows_iff (code : BitVec 7) (plain shifted : Event) :
    (code, plain, shifted) ∈ mainRows ↔ mainEntries code = some (plain, shifted) :=
  have rows : mainRows = tableRows mainEntries := rfl
  rows ▸ mem_tableRows_iff mainEntries code (plain, shifted)

theorem tableEntry_of_mem_mainRows {code : BitVec 7} {plain shifted : Event} (h : (code, plain, shifted) ∈ mainRows) :
    tableEntry tUnshift code = plain ∧ tableEntry tShift code = shifted := by
  rw [mem_mainRows_iff, mainEntries] at h
  split at h
  · exact nomatch h
  · cases h
    exact ⟨rfl, rfl⟩

theorem tableEntry_of_not_mem_mainRows {code : BitVec 7} (h : ∀ plain shifted, (code, plain, shifted) ∉ mainRows) :
    tableEntry tUnshift code = 0 ∧ tableEntry tShift code = 0 := by
  by_contra hentries
  exact h _ _ ((mem_mainRows_iff _ _ _).2 (if_neg hentries))

/-! ### What the rows hold -/

/-- A property of every row, by evaluation of the list. -/
theorem of_mem_rows {α : Type} {rows : List (BitVec 7 × α)} {p : BitVec 7 × α → Bool} (hall : rows.all p = true)
    {code : BitVec 7} {a : α} (h : (code, a) ∈ rows) : p (code, a) = true := List.all_eq_true.1 hall _ h

theorem fnEvent_ne_evNone {code : BitVec 7} {e : Event} (h : fnEvent code = some e) : e ≠ evNone :=
  of_decide_eq_true
    (of_mem_rows (p := fun r => decide (r.2 ≠ evNone)) rfl ((mem_functionRows_iff code e).2 h))

theorem mainRows_ne_evNone {code : BitVec 7} {plain shifted : Event} (h : (code, plain, shifted) ∈ mainRows) :
    plain ≠ evNone ∧ shifted ≠ evNone :=
  of_decide_eq_true (of_mem_rows (p := fun r => decide (r.2.1 ≠ evNone ∧ r.2.2 ≠ evNone)) rfl h)

/-- No function key is aliased, a modifier or a lock (R292). -/
theorem functionRows_ordinary {code : BitVec 7} {e : Event} (h : (code, e) ∈ functionRows) :
    aliasEvent code = none ∧ code ∉ stickyCodes :=
  of_decide_eq_true (of_mem_rows (p := fun r => decide (aliasEvent r.1 = none ∧ r.1 ∉ stickyCodes)) rfl h)

/-- No key of the keypad is aliased, a modifier, a lock or a function key (R293). -/
theorem keypadRows_ordinary {code : BitVec 7} {on off : Event} (h : (code, on, off) ∈ keypadRows) :
    (aliasEvent code = none ∧ code ∉ stickyCodes) ∧ fnEvent code = none :=
  of_decide_eq_true
    (of_mem_rows (p := fun r => decide ((aliasEvent r.1 = none ∧ r.1 ∉ stickyCodes) ∧ fnEvent r.1 = none)) rfl h)

end Sys2Proof.Machine
end

section
/-! PROOFS. An uninterrupted KBD_LED_WRITE (R280, R282, R394): its poll loop, its two writes, and where it hangs; and what a
step of an interrupt context that hangs keeps (R228, R236). -/

namespace Sys2Proof.Machine

open Sys2Proof

/-! ### The status poll (R280 steps 2 and 4) -/

theorem kbcStatus_ready {k : Kbc} (hk : k.busy = .reads 0) : kbcStatus k = k.status &&& 0xFD := by
  rw [kbcStatus, hk]
  rfl

theorem kbcStatus_busy {k : Kbc} (hk : k.busy ≠ .reads 0) : kbcStatus k = k.status ||| 0x02 := by
  unfold kbcStatus
  split
  · contradiction
  · rfl

theorem poll_of_ready {s : State} (hbusy : s.kbc.busy = .reads 0) :
    s.poll = { s with history := .portRead 0x64 (s.kbc.status &&& 0xFD) :: s.history } := by
  rw [State.poll, portRead_kbdStatus, kbcStatus_ready hbusy, kbcPolled, hbusy]

theorem poll_of_reads_succ {s : State} {n : Nat} (hbusy : s.kbc.busy = .reads (n + 1)) :
    s.poll =
      { s with
        kbc := { s.kbc with busy := .reads n }
        history := .portRead 0x64 (s.kbc.status ||| 0x02) :: s.history } := by
  rw [State.poll, portRead_kbdStatus, kbcStatus_busy (by simp [hbusy]), kbcPolled, hbusy]

theorem poll_of_forever {s : State} (hbusy : s.kbc.busy = .forever) :
    s.poll = { s with history := .portRead 0x64 (s.kbc.status ||| 0x02) :: s.history } := by
  rw [State.poll, portRead_kbdStatus, kbcStatus_busy (by simp [hbusy]), kbcPolled, hbusy]

/-- The loop makes `n` busy polls and the clear one. -/
theorem pollBusy_of_reads {n : Nat} {s : State} (hbusy : s.kbc.busy = .reads n) :
    pollBusy n s =
      { s with
        kbc := { s.kbc with busy := .reads 0 }
        history :=
          .portRead 0x64 (s.kbc.status &&& 0xFD) ::
            (List.replicate n (.portRead 0x64 (s.kbc.status ||| 0x02)) ++ s.history) } := by
  induction n generalizing s with
  | zero =>
    have hkbc : s.kbc = { s.kbc with busy := .reads 0 } := by rw [← hbusy]
    rw [pollBusy, poll_of_ready hbusy, ← hkbc]
    rfl
  | succ n ih =>
    rw [pollBusy, poll_of_reads_succ hbusy, ih rfl, List.replicate_succ', List.append_assoc]
    rfl

theorem pollLoop_of_reads {n : Nat} {s : State} (hs : s.Quiet) (hbusy : s.kbc.busy = .reads n) :
    pollLoop s.script s = pollBusy n s := by
  rw [hs.script_eq, pollLoop, pollQuiet, hbusy]

/-- The loop of a controller that stays busy hangs at its first poll (log 17). -/
theorem pollLoop_of_forever {s : State} (hs : s.Quiet) (hbusy : s.kbc.busy = .forever) :
    pollLoop s.script s = afterStuckPoll s := by
  rw [hs.script_eq, pollLoop, pollQuiet, hbusy]
  exact congrArg (fun t : State => { t with hang := some .ledWait }) (poll_of_forever hbusy)

/-! ### KBD_LED_WRITE (R280) -/

theorem exec_kbdLedWrite_of_interrupt {s : State} (hctx : s.ctx = .interrupt) :
    exec .kbdLedWrite s = .next (ledWriteOp s) :=
  admitted_next s .kbdLedWrite ledWriteOp (by rw [hctx]; rfl)

/-- The flags' bits do not overlap. -/
theorem ledMask_eq_sum (d : Decoder) :
    ledMask d = (if d.scroll then 1 else 0) + (if d.num then 2 else 0) + (if d.caps then 4 else 0) := by
  unfold ledMask
  cases d.scroll <;> cases d.num <;> cases d.caps <;> rfl

theorem ledMask_ne_ledCmd (d : Decoder) : ledMask d ≠ ledCmd := by
  unfold ledMask
  cases d.scroll <;> cases d.num <;> cases d.caps <;> decide

theorem kbcReceive_command (k : Kbc) : kbcReceive k ledCmd = { k with ledPending := true } := if_pos rfl

/-- After the command the LEDs show the next byte (R394). -/
theorem kbcReceive_mask {k : Kbc} {mask : Byte} (hk : k.ledPending = true) (hmask : mask ≠ ledCmd) :
    kbcReceive k mask = { k with ledPending := false, leds := mask.setWidth 3 } := by
  rw [kbcReceive, if_neg hmask, if_pos hk]

/-- The state after step 3 with a controller busy for `n` polls (R280). -/
def afterLedCommand (n : Nat) (s : State) : State :=
  { s with
    kbc := { s.kbc with busy := .reads 0, ledPending := true }
    history :=
      .portWrite kbdData ledCmd :: .portRead 0x64 (s.kbc.status &&& 0xFD) ::
        (List.replicate n (.portRead 0x64 (s.kbc.status ||| 0x02)) ++ s.history) }

theorem portWrite_pollBusy {n : Nat} {s : State} (hbusy : s.kbc.busy = .reads n) :
    (pollBusy n s).portWrite kbdData ledCmd = afterLedCommand n s := by
  rw [portWrite_kbdData, pollBusy_of_reads hbusy, kbcReceive_command]
  rfl

/-- The second poll finds the controller ready, and the byte after it is the mask. -/
theorem portWrite_poll_afterLedCommand (n : Nat) (s : State) :
    (afterLedCommand n s).poll.portWrite kbdData (ledMask s.dec) = afterLedWrite n s := by
  rw [poll_of_ready rfl, portWrite_kbdData, kbcReceive_mask rfl (ledMask_ne_ledCmd s.dec), afterLedWrite, ← ledMask_eq_sum]
  rfl

theorem ledWriteOp_of_reads {n : Nat} {s : State} (hs : s.Quiet) (hbusy : s.kbc.busy = .reads n) :
    ledWriteOp s = afterLedWrite n s := by
  have hpolled : (pollBusy n s).Quiet := by rw [pollBusy_of_reads hbusy]; exact hs
  have hcommand : (afterLedCommand n s).Quiet := hs
  have hrepolled : (afterLedCommand n s).poll.Quiet := hs
  rw [ledWriteOp, quiet_envI_andThen _ _ hs, pollLoop_of_reads hs hbusy, quiet_andThen _ _ hpolled,
    quiet_envI_andThen _ _ hpolled, portWrite_pollBusy hbusy, quiet_envI_andThen _ _ hcommand,
    pollLoop_of_reads (n := 0) hcommand rfl, pollBusy, quiet_andThen _ _ hrepolled, quiet_envI_andThen _ _ hrepolled,
    portWrite_poll_afterLedCommand]

/-- With a controller that stays busy nothing is written (R282). -/
theorem ledWriteOp_of_forever {s : State} (hs : s.Quiet) (hbusy : s.kbc.busy = .forever) :
    ledWriteOp s = afterStuckPoll s := by
  have hstopped : (afterStuckPoll s).live = false := by simp [State.live, afterStuckPoll]
  rw [ledWriteOp, quiet_envI_andThen _ _ hs, pollLoop_of_forever hs hbusy, State.andThen_stopped _ _ hstopped]

/-! ### A hang (log 17) -/

theorem hangStep_of_no_batch {h : Hang} {s : State}
    (hin : ∀ batch during rest, s.inputs ≠ .stim batch during :: rest) :
    hangStep h s = if h = .ledWait then s.poll else s := by
  unfold hangStep
  split
  · rename_i hs; exact absurd hs (hin _ _ _)
  · cases h <;> rfl

theorem acknowledge_kbc {s t : State} {v : Byte} (h : s.acknowledge = some (v, t)) : t.kbc = s.kbc := by
  unfold State.acknowledge at h
  dsimp only at h
  split at h
  · cases h
  · split at h <;> cases h <;> rfl

/-- No stimulus frees a controller that stays busy (log 17). -/
theorem stimulusNested_forever (x : Stimulus) {s : State} (hbusy : s.kbc.busy = .forever) :
    (stimulusWith deliverNested x s).kbc.busy = .forever := by
  cases x with
  | irq l =>
    dsimp only [stimulusWith, State.raiseLine]
    split <;> exact hbusy
  | take =>
    dsimp only [stimulusWith]
    split
    · split
      · rename_i hack; exact (congrArg Kbc.busy (acknowledge_kbc hack)).trans hbusy
      · exact hbusy
    · exact hbusy
  | deliver v =>
    dsimp only [stimulusWith]
    split <;> exact hbusy
  | kbcBusy n => simp [stimulusWith, kbcSetBusy, hbusy]
  | kbcStuck => rfl
  | _ => exact hbusy

theorem stimuliNested_forever (xs : List Stimulus) {s : State} (hbusy : s.kbc.busy = .forever) :
    (stimuliNested xs s).kbc.busy = .forever := by
  unfold stimuliNested
  induction xs generalizing s with
  | nil => exact hbusy
  | cons x xs ih =>
    have hx := stimulusNested_forever x hbusy
    rcases stimuliWith_cons (fun t => t.faults.isEmpty) deliverNested x xs s with ⟨_, e⟩ | ⟨_, e⟩
    · rw [e]; exact ih hx
    · rw [e]; cases xs <;> exact hx

/-- What a step of a hung interrupt context keeps, but for its inputs and its history. -/
structure StaysHung (s t : State) : Prop where
  hang : t.hang = s.hang
  ctx : t.ctx = s.ctx
  inIrq : t.inIrq = s.inIrq
  main : t.main = s.main
  ret : t.ret = s.ret
  ticks : t.ticks = s.ticks
  tmo : t.tmo = s.tmo
  dec : t.dec = s.dec
  rb : t.rb = s.rb
  mem : t.mem = s.mem
  remap : t.remap = s.remap
  refused : t.refused = s.refused
  refusals : t.refusals = s.refusals
  forever : s.kbc.busy = .forever → t.kbc.busy = .forever

theorem StaysHung.refl (s : State) : StaysHung s s :=
  ⟨rfl, rfl, rfl, rfl, rfl, rfl, rfl, rfl, rfl, rfl, rfl, rfl, rfl, id⟩

theorem poll_staysHung (s : State) : StaysHung s s.poll :=
  ⟨rfl, rfl, rfl, rfl, rfl, rfl, rfl, rfl, rfl, rfl, rfl, rfl, rfl,
    fun hbusy => by rw [poll_of_forever hbusy]; exact hbusy⟩

/-- A batch writes the devices, the interrupt flag and the callbacks' text, or faults (R202). -/
theorem stimuliNested_staysHung (xs : List Stimulus) (s : State) : StaysHung s (stimuliNested xs s) :=
  have k := stimuliNested_opOwned xs s
  have m := stimuliNested_mainOwned xs s
  { hang := k.hang, ctx := k.ctx, inIrq := k.inIrq, main := k.main, ret := k.ret, ticks := k.ticks, tmo := k.tmo,
    dec := k.dec, rb := k.rb, mem := m.mem, remap := m.remap, refused := k.refused, refusals := k.refusals,
    forever := stimuliNested_forever xs }

theorem step_hangStep {s : State} {h : Hang} (hwf : s.cfg.wellFormed = true) (hfaults : s.faults = [])
    (hhang : s.hang = some h) : step s = .next (hangStep h s) := by
  simp [step_of_faults_nil hwf hfaults, runStep, hhang]

/-- The poll of a controller that stays busy reads bit 1 set (R282). -/
theorem kbcStatus_forever_bit {k : Kbc} (hbusy : k.busy = .forever) : (kbcStatus k).getLsbD 1 = true := by
  rw [kbcStatus_busy (by simp [hbusy]), BitVec.getLsbD_or]
  exact Bool.or_true _

/-- What a hung interrupt context does in a step: it takes a batch, or polls in the LED wait, or stands still. -/
theorem hangStep_cases (h : Hang) (s : State) :
    StaysHung s (hangStep h s) ∧
      ((hangStep h s).inputs = s.inputs ∨
        ∃ batch during rest, s.inputs = .stim batch during :: rest ∧ (hangStep h s).inputs = asInputs during ++ rest) ∧
      ((hangStep h s).history = s.history ∨
        h = .ledWait ∧ ∃ b : Byte, (hangStep h s).history = .portRead 0x64 b :: s.history ∧
          (s.kbc.busy = .forever → b.getLsbD 1 = true)) := by
  by_cases hin : ∃ batch during rest, s.inputs = .stim batch during :: rest
  · obtain ⟨batch, during, rest, hin⟩ := hin
    have hstep : hangStep h s = stimuliNested batch { s with inputs := asInputs during ++ rest } := by
      simp only [hangStep, hin]
    have k := stimuliNested_staysHung batch { s with inputs := asInputs during ++ rest }
    rw [hstep]
    exact ⟨{ k with }, .inr ⟨batch, during, rest, hin, (stimuliNested_mainOwned _ _).inputs⟩,
      .inl (stimuliNested_opOwned _ _).history⟩
  · rw [hangStep_of_no_batch fun batch during rest h => hin ⟨batch, during, rest, h⟩]
    split
    · next hled => exact ⟨poll_staysHung s, .inl rfl, .inr ⟨hled, _, rfl, kbcStatus_forever_bit⟩⟩
    · exact ⟨.refl s, .inl rfl, .inl rfl⟩

/-- Settles O44: an uninterrupted write is two polls and two writes or hangs at its first poll; a step from a hang is
`hangStep`. -/
theorem ledWriteTrace : Obligations.LedWriteTrace := by
  unfold Obligations.LedWriteTrace
  refine ⟨fun n s hs hctx => ?_, fun h s hwf hfaults hhang => ?_⟩
  · rw [exec_kbdLedWrite_of_interrupt hctx]
    exact ⟨fun hbusy => congrArg _ (ledWriteOp_of_reads hs hbusy),
      fun hbusy => congrArg _ (ledWriteOp_of_forever hs hbusy)⟩
  · rw [step_hangStep hwf hfaults hhang]
    refine ⟨fun hin => ?_, ?_⟩
    · rw [hangStep_of_no_batch hin]
      refine ⟨fun hother => by rw [if_neg hother], fun hled hbusy => ?_⟩
      rw [if_pos hled, poll_of_forever hbusy, afterStuckPoll, ← hled, ← hhang]
    · obtain ⟨hstays, hinputs, hhistory⟩ := hangStep_cases h s
      exact ⟨hangStep h s, rfl, hstays.hang.trans hhang, hstays.ctx, hstays.inIrq, hstays.main, hstays.ret, hstays.ticks,
        hstays.tmo, hstays.dec, hstays.rb, hstays.mem, hstays.remap, hstays.refused, hstays.refusals, hstays.forever,
        hinputs, hhistory⟩

end Sys2Proof.Machine
end

section
/-! PROOFS. An uninterrupted KBD_DECODE (R261): the byte's transient decoder state and its effect, as functions of the byte
and the decoder, and that the operation is the two. -/

namespace Sys2Proof.Machine

open Sys2Proof

/-! ### The effect of a byte -/

/-- What a byte does besides the transient decoder state: it emits (EV_NONE: nothing), or sets a flag. -/
inductive KeyEffect where
  | emit (e : Event)
  | modifier (m : Modifier) (pressed : Bool)
  | lock (l : Lock)

/-- The state after an uninterrupted LED write (R280, R282). -/
def afterLeds (s : State) : State :=
  match s.kbc.busy with
  | .reads n => afterLedWrite n s
  | .forever => afterStuckPoll s

/-- The effect in a quiet run. -/
def KeyEffect.run : KeyEffect → State → State
  | .emit e, s => afterEmit e s
  | .modifier m pressed, s => { s with dec := setModifier m pressed s.dec }
  | .lock l, s => afterLeds { s with dec := toggleLock l s.dec }

/-- The event of a press that is not aliased and no modifier or lock (R271 to R274); EV_NONE is none. -/
def keyEvent (wasExt : Bool) (code : BitVec 7) (d : Decoder) : Event :=
  if wasExt then tExt code
  else
    match fnEvent code, numpadEvents code with
    | some e, _ => e
    | none, some (on, off) => if d.num then on else off
    | none, none => mainEvent d code

/-- The effect of a press from step 6 on (R267 to R274). -/
def pressEffect (wasExt : Bool) (code : BitVec 7) (d : Decoder) : KeyEffect :=
  match aliasEvent code, modifierOf code, lockOf code with
  | some e, _, _ => .emit e
  | none, some m, _ => .modifier m true
  | none, none, some l => .lock l
  | none, none, none => .emit (keyEvent wasExt code d)

/-- The effect of a release from step 6 on (R267, R268, R272). -/
def releaseEffect (code : BitVec 7) : KeyEffect :=
  match modifierOf code with
  | some m => .modifier m false
  | none => .emit evNone

/-- The effect of a byte that reaches step 5 (R266). -/
def keyEffect (b : Byte) (d : Decoder) : KeyEffect :=
  if scRelease b then releaseEffect (scCode b) else pressEffect d.ext (scCode b) d

/-- The effect of a byte (R261). -/
def byteEffect (b : Byte) (d : Decoder) : KeyEffect :=
  if d.pause then .emit keyPause
  else if b = scPause ∨ b = scExt then .emit evNone
  else if completesPress b d then .emit keyPrtscr
  else keyEffect b d

/-- The decoder after a byte, but for the flags that its effect sets (R262 to R266). -/
def transientDecoder (b : Byte) (d : Decoder) : Decoder :=
  if d.pause then clearToIdle d
  else if b = scPause then { d with pause := true }
  else if b = scExt then { accumulate b d with ext := true }
  else keyDecoder b d

/-! ### Emitting -/

theorem afterEmit_of_ne {e : Event} (s : State) (he : e ≠ evNone) : afterEmit e s = afterPush e s := if_neg he

@[simp] theorem afterEmit_zero (s : State) : afterEmit 0#16 s = s := if_pos rfl

theorem rbPushOp_of_ne {e : Event} {s : State} (hs : s.Quiet) (he : e ≠ evNone) : rbPushOp e s = afterEmit e s := by
  rw [rbPushOp_quiet e s hs, afterEmit_of_ne s he]

theorem ledWriteOp_of_quiet {s : State} (hs : s.Quiet) : ledWriteOp s = afterLeds s := by
  unfold afterLeds
  split
  · next n hbusy => exact ledWriteOp_of_reads hs hbusy
  · next hbusy => exact ledWriteOp_of_forever hs hbusy

/-! ### What an effect writes -/

/-- The decoder after the flags that an effect sets. -/
def KeyEffect.flags : KeyEffect → Decoder → Decoder
  | .emit _, d => d
  | .modifier m pressed, d => setModifier m pressed d
  | .lock l, d => toggleLock l d

/-- A ring after a push (R321). -/
def pushed (e : Event) (r : EventRing) : EventRing :=
  if r.head + 1 = r.tail then r
  else { buf := r.buf.set r.head.toNat e r.head.isLt, head := r.head + 1, tail := r.tail }

/-- The ring after an effect. -/
def KeyEffect.ring : KeyEffect → EventRing → EventRing
  | .emit e, r => if e = evNone then r else pushed e r
  | .modifier _ _, r => r
  | .lock _, r => r

theorem afterPush_dec (e : Event) (s : State) : (afterPush e s).dec = s.dec := by
  unfold afterPush
  split <;> rfl

theorem afterPush_rb (e : Event) (s : State) : (afterPush e s).rb = pushed e s.rb := by
  unfold afterPush pushed
  split <;> rfl

theorem afterEmit_dec (e : Event) (s : State) : (afterEmit e s).dec = s.dec := by
  unfold afterEmit
  split
  · rfl
  · exact afterPush_dec e s

theorem afterEmit_rb (e : Event) (s : State) : (afterEmit e s).rb = if e = evNone then s.rb else pushed e s.rb := by
  unfold afterEmit
  split
  · rfl
  · exact afterPush_rb e s

theorem afterLeds_dec (s : State) : (afterLeds s).dec = s.dec := by
  unfold afterLeds
  split <;> rfl

theorem afterLeds_rb (s : State) : (afterLeds s).rb = s.rb := by
  unfold afterLeds
  split <;> rfl

theorem KeyEffect.run_dec (f : KeyEffect) (s : State) : (f.run s).dec = f.flags s.dec := by
  cases f with
  | emit e => exact afterEmit_dec e s
  | modifier m pressed => rfl
  | lock l => exact afterLeds_dec _

theorem KeyEffect.run_rb (f : KeyEffect) (s : State) : (f.run s).rb = f.ring s.rb := by
  cases f with
  | emit e => exact afterEmit_rb e s
  | modifier m pressed => rfl
  | lock l => exact afterLeds_rb _

/-- EV_NONE is no event (R275). -/
theorem KeyEffect.ring_evNone (r : EventRing) : (KeyEffect.emit evNone).ring r = r := by
  rw [KeyEffect.ring, if_pos rfl]

theorem KeyEffect.flags_frame (f : KeyEffect) (d : Decoder) :
    (f.flags d).frame = d.frame ∧ (f.flags d).frameLen = d.frameLen := by
  cases f with
  | emit e => exact ⟨rfl, rfl⟩
  | modifier m pressed => cases m <;> exact ⟨rfl, rfl⟩
  | lock l => cases l <;> exact ⟨rfl, rfl⟩

/-! ### Steps 6 to 12 -/

theorem decodeNumpad_of_quiet {code : BitVec 7} {s : State} (hs : s.Quiet) (hfn : fnEvent code = none) :
    decodeNumpad code s = afterEmit (keyEvent false code s.dec) s := by
  unfold decodeNumpad keyEvent
  split
  · next on off hpad => simp [hfn, hpad, emitNonzero_quiet _ _ hs]
  · next hpad => simp [hfn, hpad, quiet_envI_andThen _ _ hs, decodeMain, emitNonzero_quiet _ _ hs]

theorem decodeFn_press_of_quiet (code : BitVec 7) {s : State} (hs : s.Quiet) :
    decodeFn false code s = afterEmit (keyEvent false code s.dec) s := by
  unfold decodeFn
  split
  · next e hfn => simp [keyEvent, hfn, rbPushOp_of_ne hs (fnEvent_ne_evNone hfn)]
  · next hfn => simp [quiet_envI_andThen _ _ hs, decodePress, decodeNumpad_of_quiet hs hfn]

theorem decodeExt_press_of_quiet (wasExt : Bool) (code : BitVec 7) {s : State} (hs : s.Quiet) :
    decodeExt false wasExt code s = afterEmit (keyEvent wasExt code s.dec) s := by
  cases wasExt with
  | false => simp [decodeExt, quiet_envI_andThen _ _ hs, decodeFn_press_of_quiet code hs]
  | true => simp [decodeExt, emitNonzero_quiet _ _ hs, keyEvent]

/-- A release that is of no modifier or lock does nothing, whichever step it ends at (R271, R272). -/
theorem decodeExt_release_of_quiet (wasExt : Bool) (code : BitVec 7) {s : State} (hs : s.Quiet) :
    decodeExt true wasExt code s = s := by
  cases wasExt with
  | false => cases hfn : fnEvent code <;> simp [decodeExt, decodeFn, decodePress, hfn, quiet_envI_andThen _ _ hs]
  | true => simp [decodeExt]

theorem decodeAlias_press_of_quiet (wasExt : Bool) (code : BitVec 7) {s : State} (hs : s.Quiet) :
    decodeAlias false wasExt code s = (pressEffect wasExt code s.dec).run s := by
  unfold decodeAlias pressEffect
  cases halias : aliasEvent code with
  | some e => exact rbPushOp_of_ne hs (aliasEvent_ne_evNone halias)
  | none =>
    simp only [Bool.false_eq_true, if_false, quiet_envI_andThen _ _ hs, decodeSticky]
    cases modifierOf code with
    | some m => rfl
    | none =>
      cases lockOf code with
      | some l => exact ledWriteOp_of_quiet hs
      | none => exact decodeExt_press_of_quiet wasExt code hs

theorem decodeAlias_release_of_quiet (wasExt : Bool) (code : BitVec 7) {s : State} (hs : s.Quiet) :
    decodeAlias true wasExt code s = (releaseEffect code).run s := by
  simp only [decodeAlias, if_true, quiet_envI_andThen _ _ hs, decodeSticky, releaseEffect]
  cases modifierOf code with
  | some m => rfl
  | none =>
    cases lockOf code with
    | some l => exact (afterEmit_zero s).symm
    | none => exact (decodeExt_release_of_quiet wasExt code hs).trans (afterEmit_zero s).symm

/-! ### The whole byte -/

@[simp] theorem accumulate_ext (b : Byte) (d : Decoder) : (accumulate b d).ext = d.ext := by
  unfold accumulate; split <;> rfl

@[simp] theorem accumulate_num (b : Byte) (d : Decoder) : (accumulate b d).num = d.num := by
  unfold accumulate; split <;> rfl

@[simp] theorem accumulate_shift (b : Byte) (d : Decoder) : (accumulate b d).shift = d.shift := by
  unfold accumulate; split <;> rfl

@[simp] theorem accumulate_caps (b : Byte) (d : Decoder) : (accumulate b d).caps = d.caps := by
  unfold accumulate; split <;> rfl

@[simp] theorem accumulate_scroll (b : Byte) (d : Decoder) : (accumulate b d).scroll = d.scroll := by
  unfold accumulate; split <;> rfl

/-- The effect of a key depends on `num`, `shift` and `caps` only, and on whether 0xE0 came before the key. -/
theorem pressEffect_congr (wasExt : Bool) (code : BitVec 7) {d d' : Decoder} (hnum : d'.num = d.num)
    (hshift : d'.shift = d.shift) (hcaps : d'.caps = d.caps) : pressEffect wasExt code d' = pressEffect wasExt code d := by
  have hmain : mainEvent d' code = mainEvent d code := by rw [mainEvent, mainEvent, usesShiftTable, hshift, hcaps]; rfl
  unfold pressEffect keyEvent
  rw [hnum, hmain]

theorem frame_set_eq_prtscPress_iff (frame : Vector Byte 4) (b : Byte) :
    frame.set 3 b = prtscPress ↔ frame[0] = 0xE0 ∧ frame[1] = 0x2A ∧ frame[2] = 0xE0 ∧ b = 0x37 := by
  constructor
  · intro h
    have hget := Vector.ext_iff.1 h
    exact ⟨by simpa using hget 0, by simpa using hget 1, by simpa using hget 2, by simpa using hget 3⟩
  · rintro ⟨h0, h1, h2, rfl⟩
    ext i hi
    interval_cases i <;> simp [h0, h1, h2]

/-- The press completes on its fourth byte only (R264). -/
theorem completesPress_iff (b : Byte) (d : Decoder) :
    completesPress b d = true ↔
      d.frameLen = 3 ∧ d.frame[0] = 0xE0 ∧ d.frame[1] = 0x2A ∧ d.frame[2] = 0xE0 ∧ b = 0x37 := by
  rw [completesPress, Bool.and_eq_true, decide_eq_true_iff, beq_iff_eq, frame_set_eq_prtscPress_iff]

/-- The fourth byte empties the frame (R264). -/
theorem accumulate_of_full (b : Byte) {d : Decoder} (hlen : d.frameLen = 3) :
    accumulate b d = { d with frame := d.frame.set 3 b, frameLen := 0 } := by
  simp [accumulate, frameTakes, hlen]

/-- 0xE0 completes no press. -/
theorem completesPress_scExt (d : Decoder) : completesPress scExt d = false :=
  Bool.eq_false_iff.2 fun h => by
    obtain ⟨-, -, -, -, hb⟩ := (completesPress_iff scExt d).1 h
    exact absurd hb (by decide)

theorem keyEffect_accumulate (b : Byte) (d : Decoder) : keyEffect b (accumulate b d) = keyEffect b d := by
  rw [keyEffect, keyEffect, accumulate_ext,
    pressEffect_congr _ _ (accumulate_num b d) (accumulate_shift b d) (accumulate_caps b d)]

theorem decodeKey_of_quiet (b : Byte) {s : State} (hs : s.Quiet) :
    decodeKey b s = (keyEffect b s.dec).run { s with dec := { s.dec with ext := false } } := by
  have hcleared : ({ s with dec := { s.dec with ext := false } } : State).Quiet := hs
  rw [decodeKey, quiet_envI_andThen _ _ hcleared, keyEffect]
  cases scRelease b with
  | true => exact decodeAlias_release_of_quiet _ _ hcleared
  | false => exact decodeAlias_press_of_quiet _ _ hcleared

/-- Step 3 and what follows it for a byte that completes no press. -/
theorem decodeFrame_of_quiet {b : Byte} {s : State} (hs : s.Quiet) (hpress : completesPress b s.dec = false) :
    decodeFrame b s =
      if b = scExt then { s with dec := { accumulate b s.dec with ext := true } }
      else (keyEffect b s.dec).run { s with dec := keyDecoder b s.dec } := by
  have hframe : ({ s with dec := accumulate b s.dec } : State).Quiet := hs
  simp only [decodeFrame, hpress, Bool.false_eq_true, if_false]
  rw [quiet_envI_andThen _ _ hframe, decodeExtPrefix, quiet_envI_andThen _ _ hframe, decodeKey_of_quiet b hframe,
    keyEffect_accumulate]
  rfl

theorem decodeFrame_of_press {b : Byte} {s : State} (hs : s.Quiet) (hpress : completesPress b s.dec = true) :
    decodeFrame b s = afterEmit keyPrtscr { s with dec := keyDecoder b s.dec } := by
  have hframe : ({ s with dec := keyDecoder b s.dec } : State).Quiet := hs
  simp only [decodeFrame, hpress, if_true]
  exact rbPushOp_of_ne hframe (by decide)

/-- An uninterrupted KBD_DECODE is the transient decoder state and the effect (R261). -/
theorem decodeOp_of_quiet (b : Byte) {s : State} (hs : s.Quiet) :
    decodeOp b s = (byteEffect b s.dec).run { s with dec := transientDecoder b s.dec } := by
  have hcleared : ({ s with dec := clearToIdle s.dec } : State).Quiet := hs
  unfold decodeOp byteEffect transientDecoder
  by_cases hsequence : s.dec.pause = true
  · rw [if_pos hsequence, if_pos hsequence, if_pos hsequence]
    exact rbPushOp_of_ne hcleared (by decide)
  rw [if_neg hsequence, if_neg hsequence, if_neg hsequence, quiet_envI_andThen _ _ hs, decodePausePrefix]
  by_cases hpause : b = scPause
  · rw [if_pos hpause, if_pos (.inl hpause), if_pos hpause]
    exact (afterEmit_zero _).symm
  rw [if_neg hpause, if_neg hpause, quiet_envI_andThen _ _ hs]
  by_cases hext : b = scExt
  · have hpress : completesPress b s.dec = false := hext ▸ completesPress_scExt s.dec
    rw [decodeFrame_of_quiet hs hpress, if_pos hext, if_pos (.inr hext), if_pos hext]
    exact (afterEmit_zero _).symm
  rw [if_neg (not_or.2 ⟨hpause, hext⟩), if_neg hext]
  cases hpress : completesPress b s.dec with
  | true => rw [decodeFrame_of_press hs hpress, if_pos rfl, KeyEffect.run]
  | false => rw [decodeFrame_of_quiet hs hpress, if_neg hext, if_neg Bool.false_ne_true]

/-! ### KBD_DECODE in interrupt context -/

theorem exec_kbdDecode_of_interrupt (b : Byte) {s : State} (hctx : s.ctx = .interrupt) :
    exec (.kbdDecode b) s = .next (decodeOp b s) :=
  admitted_next s .kbdDecode (decodeOp b) (by rw [hctx]; rfl)

theorem exec_kbdDecode_of_quiet (b : Byte) {s : State} (hs : s.Quiet) (hctx : s.ctx = .interrupt) :
    exec (.kbdDecode b) s = .next ((byteEffect b s.dec).run { s with dec := transientDecoder b s.dec }) := by
  rw [exec_kbdDecode_of_interrupt b hctx, decodeOp_of_quiet b hs]

theorem exec_kbdDecode_of_reachesKey {b : Byte} {s : State} (hs : s.Quiet) (hctx : s.ctx = .interrupt)
    (hb : reachesKey b s.dec) :
    exec (.kbdDecode b) s = .next ((keyEffect b s.dec).run { s with dec := keyDecoder b s.dec }) := by
  obtain ⟨hsequence, hpause, hext, hpress⟩ := hb
  rw [exec_kbdDecode_of_quiet b hs hctx]
  simp only [byteEffect, transientDecoder, hsequence, hpause, hext, hpress, or_self, Bool.false_eq_true, if_false]

end Sys2Proof.Machine
end

section
/-! PROOFS. The obligations about the scancode decoder (R260 to R277), from what an uninterrupted KBD_DECODE and
KBD_LED_WRITE come to and from the rows of the tables. -/

namespace Sys2Proof.Machine

open Sys2Proof

/-! ### KBD_INTAKE (R260, R89) -/

theorem exec_kbdIntake_of_interrupt {s : State} (hctx : s.ctx = .interrupt) : exec .kbdIntake s = .next (intakeOp s) :=
  admitted_next s .kbdIntake intakeOp (by rw [hctx]; rfl)

theorem portAnswer_kbdData (s : State) :
    s.portAnswer kbdData = s.kbc.out.getD (Config.portAnswer kbdData s.freeCount) := by
  cases hout : s.kbc.out <;> simp [State.portAnswer, hout]

theorem portRead_kbdData_some {s : State} {b : Byte} (hout : s.kbc.out = some b) :
    s.portRead kbdData = { s with kbc := { s.kbc with out := none }, history := .portRead 0x60 b :: s.history } := by
  have hanswer : s.portAnswer kbdData = b := by rw [portAnswer_kbdData, hout]; rfl
  rw [State.portRead, hanswer]
  simp [hout, State.log]

theorem portRead_kbdData_none {s : State} (hout : s.kbc.out = none) :
    s.portRead kbdData =
      { s with
        freeCount := s.freeCount + 1
        history := .portRead 0x60 (Config.portAnswer kbdData s.freeCount) :: s.history } := by
  have hanswer : s.portAnswer kbdData = Config.portAnswer kbdData s.freeCount := by rw [portAnswer_kbdData, hout]; rfl
  rw [State.portRead, hanswer]
  simp [hout, State.log]

/-- The intake is the decode of the byte read, after the read. -/
theorem intakeOp_of_portRead {s t : State} (ht : s.portRead kbdData = t) (hquiet : t.Quiet) :
    intakeOp s = decodeOp (s.portAnswer kbdData) t := by
  rw [intakeOp, ht, quiet_envI_andThen _ _ hquiet]

/-- Settles O30: the answer of the read is the byte there, or the free value, and the read is `portRead`. -/
theorem kbdIntakeDecodesByte : Obligations.KbdIntakeDecodesByte := by
  unfold Obligations.KbdIntakeDecodesByte
  intro s hs hctx
  rw [exec_kbdIntake_of_interrupt hctx]
  constructor
  · intro b hout
    rw [intakeOp_of_portRead (portRead_kbdData_some hout) hs, portAnswer_kbdData, hout]
    exact ⟨_, rfl, exec_kbdDecode_of_interrupt b hctx⟩
  · intro hout
    rw [intakeOp_of_portRead (portRead_kbdData_none hout) hs, portAnswer_kbdData, hout]
    exact ⟨_, _, rfl, exec_kbdDecode_of_interrupt _ hctx⟩

/-! ### Prefixes and frames (R262 to R265) -/

/-- Settles O31: the three bytes that the effect and the transient state treat before any key. -/
theorem kbdPrefixAndPauseBytes : Obligations.KbdPrefixAndPauseBytes := by
  unfold Obligations.KbdPrefixAndPauseBytes
  intro b s hs hctx
  rw [exec_kbdDecode_of_quiet b hs hctx]
  refine ⟨fun hpause => ?_, fun hpause hb => ?_, fun hpause hb => ?_⟩
  · simp only [byteEffect, transientDecoder, hpause, if_true, KeyEffect.run]
    rw [afterEmit_of_ne _ (by decide)]
    rfl
  · simp [byteEffect, transientDecoder, hpause, hb, KeyEffect.run]
  · simp [byteEffect, transientDecoder, hpause, hb, KeyEffect.run, accumulate, frameTakes]

/-- Settles O32: the frame completes the press, whose event is KEY_PRTSCR. -/
theorem kbdPrintScreenPress : Obligations.KbdPrintScreenPress := by
  unfold Obligations.KbdPrintScreenPress
  intro s hs hctx hpause hlen h0 h1 h2
  have hpress : completesPress 0x37 s.dec = true := (completesPress_iff _ _).2 ⟨hlen, h0, h1, h2, rfl⟩
  have hframe : keyDecoder 0x37 s.dec =
      { s.dec with ext := false, frame := #v[0xE0, 0x2A, 0xE0, 0x37], frameLen := 0 } := by
    have hset : s.dec.frame.set 3 0x37 = prtscPress := (frame_set_eq_prtscPress_iff _ _).2 ⟨h0, h1, h2, rfl⟩
    rw [keyDecoder, accumulate_of_full _ hlen, hset]
  rw [exec_kbdDecode_of_quiet 0x37 hs hctx]
  simp only [byteEffect, transientDecoder, hpause, hpress, hframe, Bool.false_eq_true, if_false, if_true]
  rw [if_neg (by decide), if_neg (by decide), if_neg (by decide)]
  exact congrArg _ (afterEmit_of_ne _ (by decide))

/-- Every byte but a pause byte and 0xE1 reaches step 3. -/
theorem transientDecoder_frame {b : Byte} {d : Decoder} (hpause : d.pause = false) (hb : b ≠ scPause) :
    (transientDecoder b d).frame = (accumulate b d).frame ∧
      (transientDecoder b d).frameLen = (accumulate b d).frameLen := by
  unfold transientDecoder
  rw [hpause, if_neg Bool.false_ne_true, if_neg hb]
  split <;> exact ⟨rfl, rfl⟩

/-- Settles O33: the frame after the byte is the frame that `accumulate` gives. -/
theorem kbdFrameAccumulates : Obligations.KbdFrameAccumulates := by
  unfold Obligations.KbdFrameAccumulates
  intro b s hs hctx hpause hb
  refine ⟨_, exec_kbdDecode_of_quiet b hs hctx, ?_⟩
  obtain ⟨hframe, hlen⟩ := KeyEffect.flags_frame (byteEffect b s.dec) (transientDecoder b s.dec)
  obtain ⟨hframe', hlen'⟩ := transientDecoder_frame hpause hb
  rw [KeyEffect.run_dec, hframe, hlen, hframe', hlen']
  refine ⟨fun h hb => ?_, fun h hb => ?_, fun h => ?_, fun h => ?_, fun h => ?_⟩
  · have hb : b ≠ 224#8 := hb
    simp [accumulate, frameTakes, h, hb]
  · simp [accumulate, frameTakes, h, hb]
  · simp [accumulate, frameTakes, h]
  · simp [accumulate, frameTakes, h]
  · rw [accumulate_of_full b h]
    exact ⟨rfl, rfl⟩

/-! ### Aliases, modifiers and locks (R267 to R269) -/

/-- Settles O34: the two aliased codes. -/
theorem kbdAliasPress : Obligations.KbdAliasPress := by
  unfold Obligations.KbdAliasPress
  intro b s hs hctx hb
  rw [exec_kbdDecode_of_reachesKey hs hctx hb]
  constructor <;> rintro rfl <;> exact congrArg _ (afterEmit_of_ne _ (by decide))

/-- Settles O35: each byte's effect is its modifier's. -/
theorem kbdModifiersAreSticky : Obligations.KbdModifiersAreSticky := by
  unfold Obligations.KbdModifiersAreSticky
  intro b s hs hctx hb
  rw [exec_kbdDecode_of_reachesKey hs hctx hb]
  refine ⟨?_, ?_, ?_, ?_, ?_, ?_⟩
  · rintro (rfl | rfl) <;> rfl
  · rintro (rfl | rfl) <;> rfl
  all_goals rintro rfl; rfl

theorem toggleLock_caps_keyDecoder (b : Byte) (d : Decoder) :
    toggleLock .caps (keyDecoder b d) = { keyDecoder b d with caps := !d.caps } := by
  rw [toggleLock, keyDecoder, accumulate_caps]

theorem toggleLock_num_keyDecoder (b : Byte) (d : Decoder) :
    toggleLock .num (keyDecoder b d) = { keyDecoder b d with num := !d.num } := by
  rw [toggleLock, keyDecoder, accumulate_num]

theorem toggleLock_scroll_keyDecoder (b : Byte) (d : Decoder) :
    toggleLock .scroll (keyDecoder b d) = { keyDecoder b d with scroll := !d.scroll } := by
  rw [toggleLock, keyDecoder, accumulate_scroll]

theorem afterLeds_of_reads {n : Nat} {s : State} (hbusy : s.kbc.busy = .reads n) : afterLeds s = afterLedWrite n s := by
  rw [afterLeds, hbusy]

theorem afterLeds_of_forever {s : State} (hbusy : s.kbc.busy = .forever) : afterLeds s = afterStuckPoll s := by
  rw [afterLeds, hbusy]

/-- A press of a lock writes the LEDs from the toggled flags, or hangs with a controller that stays busy (R269, R282). -/
theorem exec_kbdDecode_of_lock {b : Byte} {l : Lock} {s : State} {d : Decoder} (hs : s.Quiet) (hctx : s.ctx = .interrupt)
    (hb : reachesKey b s.dec) (hl : keyEffect b s.dec = .lock l) (hd : toggleLock l (keyDecoder b s.dec) = d) :
    (∀ n, s.kbc.busy = .reads n → exec (.kbdDecode b) s = .next (afterLedWrite n { s with dec := d })) ∧
      (s.kbc.busy = .forever → exec (.kbdDecode b) s = .next (afterStuckPoll { s with dec := d })) := by
  rw [exec_kbdDecode_of_reachesKey hs hctx hb, hl, ← hd]
  exact ⟨fun n hbusy => congrArg _ (afterLeds_of_reads hbusy), fun hbusy => congrArg _ (afterLeds_of_forever hbusy)⟩

/-- Settles O36: each press's effect is its lock's; a lock's release has no effect. -/
theorem kbdLocksToggleAndWriteLeds : Obligations.KbdLocksToggleAndWriteLeds := by
  unfold Obligations.KbdLocksToggleAndWriteLeds
  intro b s hs hctx hb
  have caps (h : b = 0x3A) :=
    exec_kbdDecode_of_lock (l := .caps) hs hctx hb (by rw [h]; rfl) (toggleLock_caps_keyDecoder b s.dec)
  have num (h : b = 0x45) :=
    exec_kbdDecode_of_lock (l := .num) hs hctx hb (by rw [h]; rfl) (toggleLock_num_keyDecoder b s.dec)
  have scroll (h : b = 0x46) :=
    exec_kbdDecode_of_lock (l := .scroll) hs hctx hb (by rw [h]; rfl) (toggleLock_scroll_keyDecoder b s.dec)
  refine ⟨fun n hbusy => ⟨fun h => (caps h).1 n hbusy, fun h => (num h).1 n hbusy, fun h => (scroll h).1 n hbusy⟩,
    fun hbusy => ⟨fun h => (caps h).2 hbusy, fun h => (num h).2 hbusy, fun h => (scroll h).2 hbusy⟩, ?_⟩
  rw [exec_kbdDecode_of_reachesKey hs hctx hb]
  rintro (rfl | rfl | rfl) <;> exact congrArg _ (afterEmit_zero _)

/-! ### Ordinary presses (R271 to R274) -/

theorem pressEffect_of_ordinary {code : BitVec 7} (wasExt : Bool) (d : Decoder)
    (hcode : aliasEvent code = none ∧ code ∉ stickyCodes) :
    pressEffect wasExt code d = .emit (keyEvent wasExt code d) := by
  obtain ⟨halias, hsticky⟩ := hcode
  rw [pressEffect, halias, modifierOf_eq_none hsticky, lockOf_eq_none hsticky]

/-- A press that is not aliased and no modifier or lock emits its event. -/
theorem exec_kbdDecode_of_ordinary {b : Byte} {s : State} (hs : s.Quiet) (hctx : s.ctx = .interrupt)
    (hb : reachesKey b s.dec) (hpress : b.toNat < 0x80)
    (hcode : aliasEvent (scCode b) = none ∧ scCode b ∉ stickyCodes) :
    exec (.kbdDecode b) s =
      .next (afterEmit (keyEvent s.dec.ext (scCode b) s.dec) { s with dec := keyDecoder b s.dec }) := by
  rw [exec_kbdDecode_of_reachesKey hs hctx hb, keyEffect, scRelease_of_press hpress, if_neg Bool.false_ne_true,
    pressEffect_of_ordinary _ _ hcode, KeyEffect.run]

theorem keyEvent_extended (code : BitVec 7) (d : Decoder) : keyEvent true code d = tExt code := rfl

theorem keyEvent_function {code : BitVec 7} {e : Event} (d : Decoder) (h : fnEvent code = some e) :
    keyEvent false code d = e := by
  simp [keyEvent, h]

theorem keyEvent_keypad {code : BitVec 7} {on off : Event} (d : Decoder) (hfn : fnEvent code = none)
    (h : numpadEvents code = some (on, off)) : keyEvent false code d = if d.num then on else off := by
  simp [keyEvent, hfn, h]

theorem keyEvent_main {code : BitVec 7} (d : Decoder) (hfn : fnEvent code = none) (hpad : numpadEvents code = none) :
    keyEvent false code d = if d.shift ≠ d.caps then tableEntry tShift code else tableEntry tUnshift code := by
  cases hshift : d.shift <;> cases hcaps : d.caps <;> simp [keyEvent, hfn, hpad, mainEvent, usesShiftTable, hshift, hcaps]

/-- Settles O37: after 0xE0 the event is the extended table's, whose rows are R291's. -/
theorem kbdExtendedPress : Obligations.KbdExtendedPress := by
  unfold Obligations.KbdExtendedPress
  intro b s hs hctx hb hext hpress hsticky hsysrq hequals
  rw [exec_kbdDecode_of_ordinary hs hctx hb hpress ⟨aliasEvent_eq_none_of_press hpress hsysrq hequals, hsticky⟩, hext,
    keyEvent_extended]
  constructor
  · intro e he
    obtain ⟨htable, hne⟩ := (mem_extendedRows_iff _ _).1 he
    exact congrArg _ ((congrArg (afterEmit · _) htable).trans (afterEmit_of_ne _ hne))
  · intro hnone
    have hzero : tExt (scCode b) = 0 := by
      by_contra hne
      exact hnone _ ((mem_extendedRows_iff _ _).2 ⟨rfl, hne⟩)
    rw [hzero]
    exact congrArg _ (afterEmit_zero _)

/-- Settles O38: without 0xE0 the event is the row's of R292, or of R293 by numlock. -/
theorem kbdFunctionAndKeypadPress : Obligations.KbdFunctionAndKeypadPress := by
  unfold Obligations.KbdFunctionAndKeypadPress
  intro b s hs hctx hb hext hpress
  constructor
  · intro e he
    have hfn : fnEvent (scCode b) = some e := (mem_functionRows_iff _ _).1 he
    rw [exec_kbdDecode_of_ordinary hs hctx hb hpress (functionRows_ordinary he), hext, keyEvent_function _ hfn,
      afterEmit_of_ne _ (fnEvent_ne_evNone hfn)]
  · intro on off he
    obtain ⟨hcode, hfn⟩ := keypadRows_ordinary (code := scCode b) he
    rw [exec_kbdDecode_of_ordinary hs hctx hb hpress hcode, hext,
      keyEvent_keypad _ hfn ((mem_keypadRows_iff _ _ _).1 he)]

/-- Settles O39: the codes of no other table have the main tables' entries, whose rows are R290's. -/
theorem kbdMainTablePress : Obligations.KbdMainTablePress := by
  unfold Obligations.KbdMainTablePress
  intro b s hs hctx hb hext hpress hsticky hsysrq hequals hfunction hkeypad
  have hfn : fnEvent (scCode b) = none :=
    Option.eq_none_iff_forall_ne_some.2 fun e he => hfunction e ((mem_functionRows_iff _ _).2 he)
  have hpad : numpadEvents (scCode b) = none :=
    Option.eq_none_iff_forall_ne_some.2 fun p hp => hkeypad p.1 p.2 ((mem_keypadRows_iff _ _ _).2 hp)
  rw [exec_kbdDecode_of_ordinary hs hctx hb hpress ⟨aliasEvent_eq_none_of_press hpress hsysrq hequals, hsticky⟩, hext,
    keyEvent_main _ hfn hpad]
  constructor
  · intro plain shifted hrow
    obtain ⟨hplain, hshifted⟩ := tableEntry_of_mem_mainRows (code := scCode b) hrow
    obtain ⟨hplainNe, hshiftedNe⟩ := mainRows_ne_evNone hrow
    rw [hplain, hshifted, afterEmit_of_ne _ (by split <;> assumption)]
  · intro hnone
    obtain ⟨hplain, hshifted⟩ := tableEntry_of_not_mem_mainRows (code := scCode b) hnone
    rw [hplain, hshifted, ite_self]
    exact congrArg _ (afterEmit_zero _)

/-! ### What is emitted (R270, R272, R275) -/

/-- A release emits nothing. -/
theorem releaseEffect_ring (code : BitVec 7) (r : EventRing) : (releaseEffect code).ring r = r := by
  unfold releaseEffect
  split
  · rfl
  · exact KeyEffect.ring_evNone r

/-- Settles O40: with the top bit set a byte is 0xE1, 0xE0 or a release, and completes no press. -/
theorem kbdReleaseEmitsNothing : Obligations.KbdReleaseEmitsNothing := by
  unfold Obligations.KbdReleaseEmitsNothing
  intro b s hs hctx hpause hb
  have hrelease := scRelease_of_release hb
  refine ⟨⟨_, exec_kbdDecode_of_quiet b hs hctx, ?_⟩, fun hkey hsticky => ?_⟩
  · have hpress : completesPress b s.dec = false := by
      refine Bool.eq_false_iff.2 fun h => ?_
      obtain ⟨-, -, -, -, rfl⟩ := (completesPress_iff b s.dec).1 h
      exact absurd hb (by decide)
    rw [KeyEffect.run_rb, byteEffect, hpause, hpress, if_neg Bool.false_ne_true, if_neg Bool.false_ne_true]
    split
    · exact KeyEffect.ring_evNone s.rb
    · rw [keyEffect, hrelease, if_pos rfl, releaseEffect_ring]
  · have hmodifier : modifierOf (scCode b) = none := modifierOf_eq_none hsticky
    rw [exec_kbdDecode_of_reachesKey hs hctx hkey, keyEffect, hrelease, if_pos rfl, releaseEffect, hmodifier]
    exact congrArg _ (afterEmit_zero _)

/-- An effect leaves the ring or pushes one event, which is not EV_NONE (R275). -/
theorem KeyEffect.ring_cases (f : KeyEffect) (r : EventRing) :
    f.ring r = r ∨ ∃ e, e ≠ 0 ∧ f.ring r = pushed e r := by
  cases f with
  | emit e =>
    by_cases he : e = 0
    · exact .inl (if_pos he)
    · exact .inr ⟨e, he, if_neg he⟩
  | modifier m pressed => exact .inl rfl
  | lock l => exact .inl rfl

/-- Settles O41: it holds of every effect. -/
theorem kbdNeverEmitsNone : Obligations.KbdNeverEmitsNone := by
  unfold Obligations.KbdNeverEmitsNone
  intro b s hs hctx
  refine ⟨_, exec_kbdDecode_of_quiet b hs hctx, ?_⟩
  simp only [KeyEffect.run_rb, afterPush_rb]
  exact KeyEffect.ring_cases _ s.rb

/-- The decoder with `ctrl` and `alt` forgotten. -/
def withoutCtrlAlt (d : Decoder) : Decoder := { d with ctrl := false, alt := false }

theorem accumulate_withoutCtrlAlt (b : Byte) (d : Decoder) :
    accumulate b (withoutCtrlAlt d) = withoutCtrlAlt (accumulate b d) := by
  unfold accumulate
  rw [show frameTakes b (withoutCtrlAlt d) = frameTakes b d from rfl]
  split <;> rfl

theorem transientDecoder_withoutCtrlAlt (b : Byte) (d : Decoder) :
    transientDecoder b (withoutCtrlAlt d) = withoutCtrlAlt (transientDecoder b d) := by
  unfold transientDecoder keyDecoder
  rw [accumulate_withoutCtrlAlt, show (withoutCtrlAlt d).pause = d.pause from rfl]
  repeat' split
  all_goals rfl

theorem byteEffect_withoutCtrlAlt (b : Byte) (d : Decoder) : byteEffect b (withoutCtrlAlt d) = byteEffect b d := by
  have hpress : pressEffect d.ext (scCode b) (withoutCtrlAlt d) = pressEffect d.ext (scCode b) d :=
    pressEffect_congr _ _ rfl rfl rfl
  unfold byteEffect keyEffect
  rw [← hpress]
  rfl

/-- An effect sets `ctrl` and `alt`, but reads neither. -/
theorem KeyEffect.flags_withoutCtrlAlt (f : KeyEffect) (d : Decoder) :
    withoutCtrlAlt (f.flags (withoutCtrlAlt d)) = withoutCtrlAlt (f.flags d) := by
  cases f with
  | emit e => rfl
  | modifier m pressed => cases m <;> rfl
  | lock l => cases l <;> rfl

/-- Settles O42: neither the transient state nor the effect reads `ctrl` or `alt`. -/
theorem ctrlAndAltChangeNoEvent : Obligations.CtrlAndAltChangeNoEvent := by
  unfold Obligations.CtrlAndAltChangeNoEvent
  intro b c a s hs hctx
  have heffect : byteEffect b { s.dec with ctrl := c, alt := a } = byteEffect b s.dec :=
    (byteEffect_withoutCtrlAlt b { s.dec with ctrl := c, alt := a }).symm.trans (byteEffect_withoutCtrlAlt b s.dec)
  have htransient : withoutCtrlAlt (transientDecoder b { s.dec with ctrl := c, alt := a }) =
      withoutCtrlAlt (transientDecoder b s.dec) :=
    (transientDecoder_withoutCtrlAlt b { s.dec with ctrl := c, alt := a }).symm.trans
      (transientDecoder_withoutCtrlAlt b s.dec)
  have hflags : withoutCtrlAlt ((byteEffect b s.dec).flags (transientDecoder b { s.dec with ctrl := c, alt := a })) =
      withoutCtrlAlt ((byteEffect b s.dec).flags (transientDecoder b s.dec)) := by
    rw [← KeyEffect.flags_withoutCtrlAlt, htransient, KeyEffect.flags_withoutCtrlAlt]
  obtain ⟨hshift, -, -, hcaps, hnum, hscroll, hext, hpause, hframe, hlen⟩ := Decoder.mk.inj hflags
  refine ⟨_, _, exec_kbdDecode_of_quiet b hs hctx, exec_kbdDecode_of_quiet b hs hctx, ?_⟩
  rw [heffect, KeyEffect.run_rb, KeyEffect.run_rb, KeyEffect.run_dec, KeyEffect.run_dec]
  exact ⟨rfl, hshift, hcaps, hnum, hscroll, hext, hpause, hframe, hlen⟩

end Sys2Proof.Machine
end

section
/-! PROOFS. The event ring as a queue (R46, R321 to R323): how many events it holds, what storing, publishing and releasing
an event make of them, and the obligations about a push and a pop at whose boundaries nothing lands. -/

namespace Sys2Proof.Machine

open Sys2Proof

/-! ### The number of held events (R322) -/

theorem ringEvents_length (r : EventRing) : (ringEvents r).length = (r.head - r.tail).toNat := by simp [ringEvents]

theorem ringEvents_eq_nil_iff (r : EventRing) : ringEvents r = [] ↔ r.head = r.tail := by
  rw [← List.length_eq_zero_iff, ringEvents_length]
  bv_omega

theorem ringFull_iff_length (r : EventRing) : ringFull r ↔ (ringEvents r).length = 255 := by
  rw [ringEvents_length, ringFull]
  bv_omega

/-- Settles O46: each clause is arithmetic modulo 256 about the distance from tail to head. -/
theorem ringFullness : Obligations.RingFullness := by
  unfold Obligations.RingFullness
  intro r
  have hlength := ringEvents_length r
  refine ⟨?_, ringFull_iff_length r, ?_, ?_⟩
  · rw [hlength, BitVec.toNat_sub]
    omega
  · rw [List.length_eq_zero_iff, ringEvents_eq_nil_iff]
  · have hbound := (r.head - r.tail).isLt
    omega

/-! ### Storing, publishing and releasing an event -/

/-- The ring with `e` stored where the next push will publish it (R321 step 5). -/
def EventRing.store (r : EventRing) (e : Event) : EventRing :=
  { r with buf := r.buf.set r.head.toNat e r.head.isLt }

/-- The ring with one event more published (R321 step 6). -/
def EventRing.publish (r : EventRing) : EventRing := { r with head := r.head + 1 }

/-- The ring with its oldest event released (R323 step 5). -/
def EventRing.release (r : EventRing) : EventRing := { r with tail := r.tail + 1 }

theorem pushed_of_full {r : EventRing} (e : Event) (h : ringFull r) : pushed e r = r := if_pos h

theorem pushed_of_not_full {r : EventRing} (e : Event) (h : ¬ ringFull r) : pushed e r = (r.store e).publish := if_neg h

theorem ringAt_store_head (r : EventRing) (e : Event) : ringAt (r.store e) r.head = e := Vector.getElem_set_self _

theorem ringAt_store_of_ne {r : EventRing} (e : Event) {i : Byte} (h : i ≠ r.head) : ringAt (r.store e) i = ringAt r i :=
  Vector.getElem_set_ne r.head.isLt i.isLt fun hi => h (BitVec.eq_of_toNat_eq hi.symm)

/-- The slot a push stores into holds no event yet. -/
theorem ringEvents_store (r : EventRing) (e : Event) : ringEvents (r.store e) = ringEvents r := by
  refine List.map_congr_left fun k hk => ringAt_store_of_ne e ?_
  have hk' : k < (r.head - r.tail).toNat := List.mem_range.1 hk
  show r.tail + BitVec.ofNat 8 k ≠ r.head
  bv_omega

theorem ringEvents_publish {r : EventRing} (h : ¬ ringFull r) : ringEvents r.publish = ringEvents r ++ [ringAt r r.head] := by
  have hlength : (r.head + 1 - r.tail).toNat = (r.head - r.tail).toNat + 1 := by
    unfold ringFull at h
    bv_omega
  have hlast : r.tail + BitVec.ofNat 8 (r.head - r.tail).toNat = r.head := by
    rw [BitVec.ofNat_toNat, BitVec.setWidth_eq, BitVec.add_comm, BitVec.sub_add_cancel]
  rw [ringEvents, show r.publish.head - r.publish.tail = r.head + 1 - r.tail from rfl, hlength, List.range_succ,
    List.map_append, List.map_singleton, show r.publish.tail = r.tail from rfl, hlast]
  rfl

/-- A push appends its event, or drops it (R321). -/
theorem ringEvents_pushed (e : Event) (r : EventRing) :
    ringEvents (pushed e r) = if (ringEvents r).length < 255 then ringEvents r ++ [e] else ringEvents r := by
  by_cases hfull : ringFull r
  · have hlength := (ringFull_iff_length r).1 hfull
    rw [pushed_of_full e hfull, if_neg (by omega)]
  · have hlength := mt (ringFull_iff_length r).2 hfull
    have hbound : (ringEvents r).length < 256 := ringEvents_length r ▸ (r.head - r.tail).isLt
    have hstored : ¬ ringFull (r.store e) := hfull
    rw [pushed_of_not_full e hfull, ringEvents_publish hstored, ringEvents_store, if_pos (by omega)]
    exact congrArg (ringEvents r ++ [·]) (ringAt_store_head r e)

/-- The oldest event is at tail, and the others are held once it is released. -/
theorem ringEvents_of_ne {r : EventRing} (h : r.head ≠ r.tail) :
    ringEvents r = ringAt r r.tail :: ringEvents r.release := by
  have hlength : (r.head - r.tail).toNat = (r.head - (r.tail + 1)).toNat + 1 := by bv_omega
  rw [ringEvents, hlength, List.range_succ_eq_map, List.map_cons, List.map_map, BitVec.add_zero]
  refine congrArg _ (List.map_congr_left fun k _ => congrArg (ringAt r) ?_)
  show r.tail + BitVec.ofNat 8 (k + 1) = r.tail + 1 + BitVec.ofNat 8 k
  bv_omega

/-- A ring that holds events: where its indices stand, and what is at tail. -/
theorem ringEvents_eq_cons {r : EventRing} {e : Event} {rest : List Event} (h : ringEvents r = e :: rest) :
    r.head ≠ r.tail ∧ ringAt r r.tail = e ∧ ringEvents r.release = rest := by
  have hne : r.head ≠ r.tail := fun heq => by
    rw [(ringEvents_eq_nil_iff r).2 heq] at h
    exact nomatch h
  rw [ringEvents_of_ne hne] at h
  exact ⟨hne, List.cons.inj h⟩

/-! ### RB_PUSH and RB_POP where nothing lands at their boundaries -/

theorem exec_rbPush_quiet (e : Event) {s : State} (hs : s.Quiet) (hctx : s.ctx = .interrupt) :
    exec (.rbPush e) s = .next (afterPush e s) := by
  rw [← rbPushOp_quiet e s hs]
  exact admitted_next s .rbPush (rbPushOp e) (by rw [hctx]; rfl)

theorem exec_rbPop_of_main {s : State} (hctx : s.ctx = .main) : exec .rbPop s = .next (rbPopOp s) :=
  admitted_next s .rbPop rbPopOp (by rw [hctx]; rfl)

theorem exec_rbPop_quiet {s : State} (hs : s.Quiet) (hctx : s.ctx = .main) :
    exec .rbPop s = .next
      (if s.rb.head = s.rb.tail then { s with ret := .event 0 }
       else { s with rb := s.rb.release, ret := .event (ringAt s.rb s.rb.tail) }) := by
  have hreleased : ({ s with rb := { s.rb with tail := s.rb.tail + 1 } } : State).Quiet := hs
  rw [exec_rbPop_of_main hctx, rbPopOp, quiet_boundary_andThen _ _ hs, quiet_boundary_andThen _ _ hs,
    quiet_boundary_andThen _ _ hs, quiet_boundary_andThen _ _ hs, quiet_boundary_andThen _ _ hreleased]
  rfl

/-- Settles O45: the quiet push, and the two branches of the quiet pop. -/
theorem ringPushAndPop : Obligations.RingPushAndPop := by
  unfold Obligations.RingPushAndPop
  intro e s hs
  refine ⟨exec_rbPush_quiet e hs, fun hctx hempty => ?_, fun hctx hheld => ?_⟩
  · rw [exec_rbPop_quiet hs hctx, if_pos hempty]
  · rw [exec_rbPop_quiet hs hctx, if_neg hheld]
    rfl

/-- Settles O47: what the quiet push and pop do to the held events. -/
theorem ringRefinesBoundedQueue : Obligations.RingRefinesBoundedQueue := by
  unfold Obligations.RingRefinesBoundedQueue
  intro s hs
  refine ⟨fun e hctx => ⟨_, exec_rbPush_quiet e hs hctx, ?_⟩, fun hctx hempty => ?_, fun e rest hctx hheld => ?_⟩
  · rw [afterPush_rb, ringEvents_pushed]
  · have hindices := (ringEvents_eq_nil_iff s.rb).1 hempty
    exact ⟨_, (exec_rbPop_quiet hs hctx).trans (congrArg _ (if_pos hindices)), rfl, hempty⟩
  · obtain ⟨hindices, holdest, hrest⟩ := ringEvents_eq_cons hheld
    exact ⟨_, (exec_rbPop_quiet hs hctx).trans (congrArg _ (if_neg hindices)), congrArg Ret.event holdest, hrest⟩

end Sys2Proof.Machine
end

section
/-! PROOFS. What a boundary of main context can do to the event ring (R321, R325, R326): whatever lands there, tail stays where
it is and the held events stay in front, since all that interrupt context does to the ring is push. -/

namespace Sys2Proof.Machine

open Sys2Proof

/-! ### A push, wherever it stops (R321) -/

/-- How far a push of `e` into the ring `r` has come. -/
inductive PushReaches (e : Event) (r : EventRing) : EventRing → Prop where
  | begun : PushReaches e r r
  | stored : PushReaches e r (r.store e)
  | done : PushReaches e r (pushed e r)

theorem pushed_tail (e : Event) (r : EventRing) : (pushed e r).tail = r.tail := by
  unfold pushed
  split <;> rfl

/-- Nothing that lands inside a push touches the ring (R202). -/
theorem rbPushOp_reaches (e : Event) (s : State) : PushReaches e s.rb (rbPushOp e s).rb := by
  have pass {r : EventRing} {u : State} {k : State → State} (hu : u.rb = r) (hr : PushReaches e s.rb r)
      (hk : ∀ v, v.rb = r → PushReaches e s.rb (k v).rb) : PushReaches e s.rb ((envI u).andThen k).rb := by
    have hring : (envI u).rb = r := (envI_opOwned u).rb.trans hu
    exact State.andThen_elim (P := fun v => PushReaches e s.rb v.rb) (fun _ => hring ▸ hr) fun _ => hk _ hring
  unfold rbPushOp
  refine pass rfl .begun fun u hu => pass hu .begun fun v hv => pass hv .begun fun w hw => ?_
  split
  · exact hw ▸ .begun
  · next hnot =>
    rw [hu] at hnot
    refine pass hw .begun fun x hx => pass (r := s.rb.store e) ?_ .stored fun y hy => ?_
    · rw [hx]; rfl
    · have hdone : ({ y.rb with head := s.rb.head + 1 } : EventRing) = pushed e s.rb := by
        rw [hy, pushed_of_not_full e hnot]; rfl
      exact hdone ▸ .done

/-! ### A ring that has grown -/

/-- The ring of `s` is `r` after pushes alone: tail has not moved, and the events of `r` are in front. -/
structure RingGrown (r : EventRing) (s : State) : Prop where
  tail : s.rb.tail = r.tail
  events : ringEvents r <+: ringEvents s.rb

theorem RingGrown.refl (s : State) : RingGrown s.rb s := ⟨rfl, List.prefix_refl _⟩

theorem portWrite_rb (s : State) (p : Port) (v : Byte) : (s.portWrite p v).rb = s.rb := by
  unfold State.portWrite
  dsimp only
  repeat' split
  all_goals rfl

theorem portRead_rb (s : State) (p : Port) : (s.portRead p).rb = s.rb := by
  unfold State.portRead
  dsimp only
  repeat' split
  all_goals rfl

theorem pollBusy_rb (n : Nat) (s : State) : (pollBusy n s).rb = s.rb := by
  induction n generalizing s with
  | zero => exact portRead_rb s kbdStatus
  | succ n ih => exact (ih s.poll).trans (portRead_rb s kbdStatus)

section
variable {r : EventRing} {s : State}

/-- A write to other fields. -/
theorem RingGrown.write {t : State} (h : RingGrown r s) (e : t.rb = s.rb := by rfl) : RingGrown r t :=
  ⟨e ▸ h.tail, e ▸ h.events⟩

/-- Past a boundary of interrupt context, after a write to other fields. -/
theorem RingGrown.envI_andThen {t : State} {k : State → State} (h : RingGrown r s)
    (hk : ∀ u, RingGrown r u → RingGrown r (k u)) (e : t.rb = s.rb := by rfl) : RingGrown r ((envI t).andThen k) :=
  State.andThen_keeps (h.write ((envI_opOwned t).rb.trans e)) hk

/-! ### The ring and the keyboard (R280, R321) -/

theorem rbPushOp_ringGrown (e : Event) (h : RingGrown r s) : RingGrown r (rbPushOp e s) := by
  have hpush := rbPushOp_reaches e s
  generalize rbPushOp e s = t at hpush
  generalize hring : t.rb = r' at hpush
  cases hpush with
  | begun => exact h.write hring
  | stored =>
    refine ⟨hring ▸ h.tail, ?_⟩
    rw [hring, ringEvents_store]
    exact h.events
  | done =>
    refine ⟨?_, h.events.trans ?_⟩
    · rw [hring, pushed_tail]
      exact h.tail
    · rw [hring, ringEvents_pushed]
      split
      · exact List.prefix_append _ _
      · exact List.prefix_refl _

theorem pollLoop_ringGrown (bs : List (List Stimulus)) (h : RingGrown r s) : RingGrown r (pollLoop bs s) := by
  have hpoll (u : State) : u.poll.rb = u.rb := portRead_rb u kbdStatus
  induction bs generalizing s with
  | nil =>
    unfold pollLoop pollQuiet
    split
    · exact h.write (pollBusy_rb _ s)
    · exact h.write (hpoll s)
  | cons b bs ih =>
    unfold pollLoop
    split
    · exact State.andThen_keeps (h.write ((stimuliNested_opOwned b _).rb.trans (hpoll s))) fun u hu => ih hu
    · exact h.write (hpoll s)

theorem ledWriteOp_ringGrown (h : RingGrown r s) : RingGrown r (ledWriteOp s) := by
  have hloop {u : State} (hu : RingGrown r u) : RingGrown r (pollLoop u.script u) := pollLoop_ringGrown _ hu
  unfold ledWriteOp
  refine h.envI_andThen fun u hu => State.andThen_keeps (hloop hu) fun u hu => hu.envI_andThen fun u hu => ?_
  refine hu.envI_andThen (fun u hu => ?_) (portWrite_rb u _ _)
  exact State.andThen_keeps (hloop hu) fun u hu => hu.envI_andThen fun u hu => hu.write (portWrite_rb u _ _)

/-! ### KBD_DECODE (R261), from its last step to its first -/

theorem emitNonzero_ringGrown (e : Event) (h : RingGrown r s) : RingGrown r (emitNonzero e s) := by
  unfold emitNonzero
  split
  · exact h
  · exact rbPushOp_ringGrown e h

theorem decodeNumpad_ringGrown (code : BitVec 7) (h : RingGrown r s) : RingGrown r (decodeNumpad code s) := by
  unfold decodeNumpad
  split
  · exact emitNonzero_ringGrown _ h
  · exact h.envI_andThen fun u hu => emitNonzero_ringGrown _ hu

theorem decodeFn_ringGrown (rel : Bool) (code : BitVec 7) (h : RingGrown r s) : RingGrown r (decodeFn rel code s) := by
  unfold decodeFn
  split
  · split
    · exact h
    · exact rbPushOp_ringGrown _ h
  · refine h.envI_andThen fun u hu => ?_
    unfold decodePress
    split
    · exact hu
    · exact hu.envI_andThen fun u hu => decodeNumpad_ringGrown code hu

theorem decodeExt_ringGrown (rel wasExt : Bool) (code : BitVec 7) (h : RingGrown r s) :
    RingGrown r (decodeExt rel wasExt code s) := by
  unfold decodeExt
  split
  · split
    · exact h
    · exact emitNonzero_ringGrown _ h
  · exact h.envI_andThen fun u hu => decodeFn_ringGrown rel code hu

theorem decodeSticky_ringGrown (rel wasExt : Bool) (code : BitVec 7) (h : RingGrown r s) :
    RingGrown r (decodeSticky rel wasExt code s) := by
  unfold decodeSticky
  split
  · exact h.write
  · split
    · split
      · exact h
      · exact ledWriteOp_ringGrown h.write
    · exact h.envI_andThen fun u hu => decodeExt_ringGrown rel wasExt code hu

theorem decodeKey_ringGrown (b : Byte) (h : RingGrown r s) : RingGrown r (decodeKey b s) := by
  unfold decodeKey
  refine h.envI_andThen fun u hu => ?_
  unfold decodeAlias
  split
  · exact rbPushOp_ringGrown _ hu
  · exact hu.envI_andThen fun u hu => decodeSticky_ringGrown _ _ _ hu

theorem decodeFrame_ringGrown (b : Byte) (h : RingGrown r s) : RingGrown r (decodeFrame b s) := by
  unfold decodeFrame
  dsimp only
  split
  · exact rbPushOp_ringGrown _ h.write
  · refine h.envI_andThen fun u hu => ?_
    unfold decodeExtPrefix
    split
    · exact hu.write
    · exact hu.envI_andThen fun u hu => decodeKey_ringGrown b hu

theorem decodeOp_ringGrown (b : Byte) (h : RingGrown r s) : RingGrown r (decodeOp b s) := by
  unfold decodeOp
  split
  · exact rbPushOp_ringGrown _ h.write
  · refine h.envI_andThen fun u hu => ?_
    unfold decodePausePrefix
    split
    · exact hu.write
    · exact hu.envI_andThen fun u hu => decodeFrame_ringGrown b hu

theorem intakeOp_ringGrown (h : RingGrown r s) : RingGrown r (intakeOp s) := by
  unfold intakeOp
  exact h.envI_andThen (fun u hu => decodeOp_ringGrown _ hu) (portRead_rb s kbdData)

/-! ### The scan of the timeout table, and its callbacks (R226, R228) -/

theorem callbackRequest_ringGrown (w : RequestWord) (h : RingGrown r s) : RingGrown r (callbackRequest w s) := by
  unfold callbackRequest
  cases decode w with
  | unknownOp => exact h.write
  | nonzeroUnused o => exact h.write
  | ok i =>
    cases i with
    | schedule cb d =>
      exact h.envI_andThen fun u hu => State.andThen_keeps
        (scheduleScan_keeps (fun _ _ _ hv => hv.write) (fun v hv => hv.write (envI_opOwned v).rb) cb d slots hu)
        fun _ hv => hv
    | _ => exact h.write

theorem callbackRequests_ringGrown (ws : List RequestWord) (h : RingGrown r s) : RingGrown r (callbackRequests ws s) := by
  induction ws generalizing s with
  | nil => exact h
  | cons w ws ih =>
    exact State.andThen_keeps (callbackRequest_ringGrown w h) fun u hu => hu.envI_andThen fun u hu => ih hu

theorem invokeOp_ringGrown (cb : CallbackId) (h : RingGrown r s) : RingGrown r (invokeOp cb s) := by
  unfold invokeOp
  refine h.envI_andThen fun u hu => State.andThen_keeps (callbackRequests_ringGrown _ hu) fun u hu => ?_
  split <;> exact hu.write

theorem advanceSlots_ringGrown (is : List (Fin 16)) (h : RingGrown r s) : RingGrown r (advanceSlots is s) := by
  induction is generalizing s with
  | nil => exact h
  | cons i is ih =>
    unfold advanceSlots
    refine State.andThen_keeps (State.andThen_keeps ?_ fun u hu => hu.write (envI_opOwned u).rb) fun u hu => ih hu
    split
    · refine h.envI_andThen fun u hu => ?_
      unfold fireSlot
      exact hu.envI_andThen fun u hu => invokeOp_ringGrown _ hu
    · exact h

theorem tickOp_ringGrown (h : RingGrown r s) : RingGrown r (tickOp s) := by
  unfold tickOp
  exact h.envI_andThen fun u hu => advanceSlots_ringGrown slots hu

/-! ### HANDLE and deliveries (R200, R348) -/

theorem eoiOp_ringGrown (line : Byte) (h : RingGrown r s) : RingGrown r (eoiOp line s) := by
  unfold eoiOp
  refine h.envI_andThen (fun u hu => hu.write (portWrite_rb u _ _)) ?_
  split
  · exact portWrite_rb s _ _
  · rfl

theorem lineWork_ringGrown (line : Byte) (h : RingGrown r s) : RingGrown r (lineWork line s) := by
  unfold lineWork
  split
  · exact tickOp_ringGrown h
  · split
    · exact intakeOp_ringGrown h
    · exact h

theorem handleVector_ringGrown (v : Byte) (h : RingGrown r s) : RingGrown r (handleVector v s) := by
  unfold handleVector
  split
  · exact h.write
  · split
    · exact State.andThen_keeps (lineWork_ringGrown _ h) fun u hu => hu.envI_andThen fun u hu => eoiOp_ringGrown _ hu
    · exact h.write

theorem handleOp_ringGrown (v : Byte) (h : RingGrown r s) : RingGrown r (handleOp v s) := by
  unfold handleOp
  exact h.envI_andThen fun u hu => State.andThen_keeps (handleVector_ringGrown v hu) fun u hu =>
    hu.envI_andThen fun u hu => hu.write

theorem resumed_rb (s : State) (v : Byte) (p : MainPoint) (x : Resume) : (s.resumed v p x).rb = s.rb := by
  cases x <;> rfl

theorem deliverAt_ringGrown (p : MainPoint) (v : Byte) (h : RingGrown r s) : RingGrown r (deliverAt p v s) := by
  have hhandle (w : Byte) : RingGrown r (handleOp w s.enter) := handleOp_ringGrown w h.write
  rcases deliverAt_cases p v s with ⟨f, -, e⟩ | ⟨w, -, -, e⟩ | ⟨w, -, -, e⟩
  · rw [e]
    exact h.write
  · rw [e]
    exact hhandle w
  · rw [e]
    split
    · exact (hhandle w).write (resumed_rb _ _ _ _)
    · exact (hhandle w).write

/-! ### Boundaries of main context (R358, R381) -/

/-- What a stimulus can do: it delivers, at most after a request was taken, or leaves alone what operations own. -/
theorem stimulusWith_cases (deliver : Byte → State → State) (x : Stimulus) (s : State) :
    (∃ v t, OpOwned s t ∧ stimulusWith deliver x s = deliver v t) ∨ OpOwned s (stimulusWith deliver x s) := by
  cases hx : deliversNothing x with
  | true =>
    have hnested := stimulusNested_opOwned x s
    rw [stimulusWith_deliversNothing _ x s hx] at hnested ⊢
    exact .inr hnested
  | false =>
    cases x with
    | take =>
      unfold stimulusWith
      dsimp only
      split
      · split
        · next htaken => exact .inl ⟨_, _, acknowledge_opOwned _ _ _ htaken, rfl⟩
        · exact .inr (.refl s)
      · exact .inr (.refl s)
    | deliver v =>
      unfold stimulusWith
      dsimp only
      split
      · exact .inl ⟨v, s, .refl s, rfl⟩
      · exact .inr (.refl s)
    | _ => exact nomatch hx

theorem stimulusLive_ringGrown (x : Stimulus) (h : RingGrown r s) : RingGrown r (stimulusWith deliverOp x s) := by
  rcases stimulusWith_cases deliverOp x s with ⟨v, t, ht, e⟩ | ht
  · rw [e]
    exact deliverAt_ringGrown t.point v (h.write ht.rb)
  · exact h.write ht.rb

theorem stimuliLive_ringGrown (xs : List Stimulus) (h : RingGrown r s) :
    RingGrown r (stimuliWith State.live deliverOp xs s) := by
  induction xs generalizing s with
  | nil => exact h
  | cons x xs ih =>
    have hx := stimulusLive_ringGrown x h
    rcases stimuliWith_cons State.live deliverOp x xs s with ⟨_, e⟩ | ⟨_, e⟩
    · rw [e]
      exact ih hx
    · rw [e]
      exact hx.write (putBack_opOwned _ xs).rb

theorem envM_ringGrown (h : RingGrown r s) : RingGrown r (envM s) := by
  unfold envM
  split
  · exact h
  · exact stimuliLive_ringGrown _ h.write

end

end Sys2Proof.Machine
end

section
/-! PROOFS. A pop of main context that runs to its end, whatever lands at its step boundaries (R323, R326): the running context
is main context again after each of them, so that the pop is the look at head, the read and the release between them. -/

namespace Sys2Proof.Machine

open Sys2Proof

/-! ### The running context after a boundary (R353) -/

/-- A delivery to main context that lets it go on has returned to it. -/
theorem deliverAt_ctx {p : MainPoint} {v : Byte} {s : State} (h : (deliverAt p v s).live = true) :
    (deliverAt p v s).ctx = .main := by
  rcases deliverAt_cases p v s with ⟨f, -, e⟩ | ⟨w, -, hstopped, e⟩ | ⟨w, -, -, e⟩
  · rw [e, State.raise_live] at h
    exact nomatch h
  · rw [e, hstopped] at h
    exact nomatch h
  · rw [e]
    split
    · cases resumeAt s.cfg v p <;> rfl
    · rfl

theorem stimulusLive_ctx (x : Stimulus) {s : State} (hctx : s.ctx = .main)
    (hlive : (stimulusWith deliverOp x s).live = true) : (stimulusWith deliverOp x s).ctx = .main := by
  rcases stimulusWith_cases deliverOp x s with ⟨v, t, -, e⟩ | ht
  · rw [e] at hlive ⊢
    exact deliverAt_ctx hlive
  · exact ht.ctx.trans hctx

theorem State.putBack_live (s : State) (xs : List Stimulus) : (s.putBack xs).live = s.live := by cases xs <;> rfl

theorem stimuliLive_ctx (xs : List Stimulus) {s : State} (hctx : s.ctx = .main)
    (hlive : (stimuliWith State.live deliverOp xs s).live = true) :
    (stimuliWith State.live deliverOp xs s).ctx = .main := by
  induction xs generalizing s with
  | nil => exact hctx
  | cons x xs ih =>
    rcases stimuliWith_cons State.live deliverOp x xs s with ⟨hon, e⟩ | ⟨hstopped, e⟩
    · rw [e] at hlive ⊢
      exact ih (stimulusLive_ctx x hctx hon) hlive
    · rw [e, State.putBack_live, hstopped] at hlive
      exact nomatch hlive

theorem envM_ctx {s : State} (hctx : s.ctx = .main) (hlive : (envM s).live = true) : (envM s).ctx = .main := by
  unfold envM at hlive ⊢
  split at hlive
  · exact hctx
  · exact stimuliLive_ctx _ hctx hlive

/-- A run of main context that has not stopped has gone on past its boundary, as main context. -/
theorem boundary_andThen_of_live {s : State} {k : State → State} (hlive : ((boundary s).andThen k).live = true)
    (hctx : s.ctx = .main) :
    (boundary s).andThen k = k (envM s) ∧ (envM s).ctx = .main := by
  have hboundary : boundary s = envM s := if_pos hctx
  rw [hboundary] at hlive ⊢
  rcases (envM s).andThen_cases k with ⟨hon, e⟩ | ⟨hstopped, e⟩
  · exact ⟨e, envM_ctx hctx hon⟩
  · rw [e, hstopped] at hlive
    exact nomatch hlive

/-! ### The pop (R323) -/

/-- Step 1 reads tail, step 2 head, step 4 the event and step 5 releases it; a boundary follows each. -/
theorem rbPopOp_of_live {s : State} (hctx : s.ctx = .main) (hlive : (rbPopOp s).live = true) :
    rbPopOp s =
      if (envM s).rb.head = s.rb.tail then { envM (envM s) with ret := .event 0 }
      else
        let u := envM (envM (envM (envM s)))
        { envM { u with rb := { u.rb with tail := s.rb.tail + 1 } } with
          ret := .event (ringAt (envM (envM (envM s))).rb s.rb.tail) } := by
  unfold rbPopOp at hlive ⊢
  obtain ⟨e1, hctx1⟩ := boundary_andThen_of_live hlive hctx
  rw [e1] at hlive ⊢
  obtain ⟨e2, hctx2⟩ := boundary_andThen_of_live hlive hctx1
  rw [e2] at hlive ⊢
  split
  · rfl
  · next hheld =>
    rw [if_neg hheld] at hlive
    obtain ⟨e3, hctx3⟩ := boundary_andThen_of_live hlive hctx2
    rw [e3] at hlive ⊢
    obtain ⟨e4, hctx4⟩ := boundary_andThen_of_live hlive hctx3
    rw [e4] at hlive ⊢
    obtain ⟨e5, -⟩ := boundary_andThen_of_live hlive hctx4
    exact e5

/-- The oldest event stays the oldest while the ring grows. -/
theorem RingGrown.oldest {r : EventRing} {s : State} {e : Event} {rest : List Event} (h : RingGrown r s)
    (hheld : ringEvents r = e :: rest) : ringAt s.rb s.rb.tail = e := by
  obtain ⟨later, hlater⟩ := h.events
  rw [hheld, List.cons_append] at hlater
  obtain ⟨-, holdest, -⟩ := ringEvents_eq_cons hlater.symm
  exact holdest

/-- Settles O48: between the steps of the pop the ring grows, so that what the pop has seen of it stays true. -/
theorem preemptedPopIsWhole : Obligations.PreemptedPopIsWhole := by
  unfold Obligations.PreemptedPopIsWhole
  intro s t _ hctx hexec hlive u
  rw [exec_rbPop_of_main hctx] at hexec
  cases hexec
  have hpop := rbPopOp_of_live hctx hlive
  have hlooked : RingGrown s.rb (envM s) := envM_ringGrown (.refl s)
  refine ⟨hlooked.events, fun hempty => ?_, fun e rest hheld => ?_⟩
  · rw [hpop, if_pos (((ringEvents_eq_nil_iff _).1 hempty).trans hlooked.tail)]
  · have hread : RingGrown (envM s).rb (envM (envM (envM s))) := envM_ringGrown (envM_ringGrown (.refl _))
    have hu : RingGrown (envM s).rb u := envM_ringGrown hread
    have htail : u.rb.tail = s.rb.tail := hu.tail.trans hlooked.tail
    have hreadTail : (envM (envM (envM s))).rb.tail = s.rb.tail := hread.tail.trans hlooked.tail
    obtain ⟨hindices, -, -⟩ := ringEvents_eq_cons hheld
    have hreturned : ringAt (envM (envM (envM s))).rb s.rb.tail = e := hreadTail ▸ hread.oldest hheld
    refine ⟨hu.events, htail, hu.oldest hheld, ?_⟩
    rw [hpop, if_neg fun h => hindices (h.trans hlooked.tail.symm), hreturned, htail]

end Sys2Proof.Machine
end

section
/-! PROOFS. The controllers after the boot remap (R357). -/

namespace Sys2Proof.Machine

open Sys2Proof

/-- Settles O15: it is PIC_REMAP's whole effect (O14) at the boot offsets, read field by field. -/
theorem bootRemapState : Obligations.BootRemapState := by
  unfold Obligations.BootRemapState
  rintro m1 m2 s hs hctx hifl rfl rfl
  exact ⟨_, picRemapProgramsControllers 0x20 0x28 s hs hctx hifl (by decide) (by decide),
    rfl, rfl, rfl, rfl, rfl, rfl, rfl, rfl, rfl, rfl⟩

end Sys2Proof.Machine
end

section
/-! PROOFS. A stimulus of main context's boundary that has no effect (log 10, 12), and with it that `cpu.if` holds maskable
interrupts back (R348, R349). -/

namespace Sys2Proof.Machine

open Sys2Proof

/-- A step that takes a batch of one stimulus. -/
theorem step_stim_singleton {s : State} {x : Stimulus} {during : List (List Stimulus)} {rest : List Input} (hs : s.Ready)
    (hin : s.inputs = .stim [x] during :: rest) :
    step s = .next (s.finish (stimulusWith deliverOp x { s with inputs := rest, script := during })) := by
  obtain ⟨hwf, ⟨hfaults, hhang, -, -⟩, -⟩ := hs
  rw [step_of_faults_nil hwf hfaults, runStep_stim hhang hin, runBatch, orderBatch_singleton, stimuliWith_singleton]
  exact congrArg _ (finish_congr _ rfl)

/-- What was to land inside such a stimulus lands next (log 9). -/
theorem step_stim_without_effect {s : State} {x : Stimulus} {during : List (List Stimulus)} {rest : List Input}
    (hs : s.Ready) (hin : s.inputs = .stim [x] during :: rest)
    (hx : stimulusWith deliverOp x { s with inputs := rest, script := during } =
      { s with inputs := rest, script := during }) :
    step s = .next { s with inputs := asInputs during ++ rest } := by
  have hrest := hs.atRestWith_eq rfl (asInputs during ++ rest)
  obtain ⟨-, hquiet, -⟩ := id hs
  have hlive : ({ s with inputs := rest, script := during } : State).live = true := hquiet.live_eq
  rw [step_stim_singleton hs hin, hx, State.finish_live _ _ hlive, ← hrest]
  rfl

/-- A maskable vector is not delivered while the flag is clear (R348, log 12). -/
theorem stimulusWith_deliver_masked (deliver : Byte → State → State) {v : Byte} {s : State} (hv : 32 ≤ v.toNat)
    (hifl : s.cpu.ifl = false) : stimulusWith deliver (.deliver v) s = s :=
  if_neg (by simp [hifl]; omega)

/-- The CPU takes no request while the flag is clear (R349, log 10). -/
theorem stimulusWith_take_masked (deliver : Byte → State → State) {s : State} (hifl : s.cpu.ifl = false) :
    stimulusWith deliver .take s = s :=
  if_neg (by simp [hifl])

/-- Settles O52: neither stimulus has an effect, so that the step only moves on in the inputs. -/
theorem maskedInterruptsWait : Obligations.MaskedInterruptsWait := by
  unfold Obligations.MaskedInterruptsWait
  intro s v during rest hs hifl
  exact ⟨fun hin hv => step_stim_without_effect hs hin (stimulusWith_deliver_masked deliverOp hv hifl),
    fun hin => step_stim_without_effect hs hin (stimulusWith_take_masked deliverOp hifl)⟩

end Sys2Proof.Machine
end

section
/-! PROOFS. The six checks of a delivery (R348): the fault of each, where the checks before it pass, and the step that
records it. -/

namespace Sys2Proof.Machine

open Sys2Proof

/-! ### The checks, one equation for each fault (R348) -/

theorem deliveryCheck_reentry {s : State} {v : Byte} (hirq : s.inIrq = true) : deliveryCheck s v = .error .reentry :=
  if_pos hirq

section
variable {s : State} {v : Byte} (hirq : s.inIrq = false)
include hirq

theorem deliveryCheck_noIdt (hloaded : s.cpu.idtLoaded = false) : deliveryCheck s v = .error .noIdt := by
  simp [deliveryCheck, hirq, hloaded]

variable (hloaded : s.cpu.idtLoaded = true) (hgate : s.gateBusy ≠ some v)
include hloaded hgate

/-- Check 4: the slot lies beyond the limit, or does not hold the stub gate's type and selector. -/
theorem deliveryCheck_unwiredVector
    (h : s.cpu.idtr.limit.toNat < 16 * v.toNat + 15 ∨
      (readGate s.mem (slotAddr s.cpu.idtr.base v)).typeAttr ≠ 0x8E ∨
      (readGate s.mem (slotAddr s.cpu.idtr.base v)).selector ≠ 0x0008) :
    deliveryCheck s v = .error .unwiredVector := by
  by_cases hlimit : s.cpu.idtr.limit.toNat < 16 * v.toNat + 15
  · simp [deliveryCheck, hirq, hloaded, hgate, hlimit]
  · have hfields := h.resolve_left hlimit
    rw [deliveryCheck, if_neg (by simp [hirq]), if_neg (by simp [hloaded]), if_neg hgate, if_neg hlimit, if_pos hfields]

/-- Check 5: the slot holds a stub gate whose handler is no stub. -/
theorem deliveryCheck_unknownStub (hlimit : 16 * v.toNat + 15 ≤ s.cpu.idtr.limit.toNat)
    (hattr : (readGate s.mem (slotAddr s.cpu.idtr.base v)).typeAttr = 0x8E)
    (hsel : (readGate s.mem (slotAddr s.cpu.idtr.base v)).selector = 0x0008)
    (hstub : stubIndex s.cfg (gateHandler (readGate s.mem (slotAddr s.cpu.idtr.base v))) = none) :
    deliveryCheck s v = .error .unknownStub := by
  simp [deliveryCheck, hirq, hloaded, hgate, hattr, hsel, hstub, Nat.not_lt.2 hlimit]

end

/-- A handler that is none of STUB has no index. -/
theorem stubIndex_eq_none {c : Config} {h : Word64} (hstub : ∀ w : Fin 48, c.stub[w] ≠ h) : stubIndex c h = none := by
  rw [stubIndex, Option.map_eq_none_iff, List.findIdx?_eq_none_iff]
  intro x hx
  obtain ⟨i, hi, rfl⟩ := Vector.mem_iff_getElem.1 (Vector.mem_toList_iff.1 hx)
  simpa using hstub ⟨i, hi⟩

/-! ### The step (R342, R348) -/

/-- The fault of a failing check is all that such a delivery changes. -/
theorem step_delivery_fault {s : State} {v : Byte} {f : Fault} {rest : List Input} (hs : s.Ready)
    (hin : s.inputs = .stim [.deliver v] [] :: rest) (hunmasked : v.toNat ≤ 31 ∨ s.cpu.ifl = true)
    (hcheck : deliveryCheck s v = .error f) : step s = .next { s with inputs := rest, faults := [f] } := by
  obtain ⟨-, ⟨hfaults, -, -, hscript⟩, -⟩ := id hs
  have hfault : deliverOp v { s with inputs := rest, script := [] } =
      State.raise { s with inputs := rest, script := [] } f := deliverOp_fault hcheck
  have hland : stimulusWith deliverOp (.deliver v) { s with inputs := rest, script := [] } =
      deliverOp v { s with inputs := rest, script := [] } := stimulusWith_unmasked deliverOp hunmasked
  rw [step_stim_singleton hs hin, hland, hfault, State.finish_faulted _ _ f s.faults rfl]
  simp only [State.raise, hfaults, hscript]

/-- Settles O49: each clause is the fault of one check, where the checks before it pass. -/
theorem deliveryChecksInOrder : Obligations.DeliveryChecksInOrder := by
  unfold Obligations.DeliveryChecksInOrder
  intro s v rest hs hin hunmasked
  have records {f : Fault} : deliveryCheck s v = .error f → step s = .next { s with inputs := rest, faults := [f] } :=
    step_delivery_fault hs hin hunmasked
  refine ⟨fun hirq => records (deliveryCheck_reentry hirq),
    fun hirq hloaded => records (deliveryCheck_noIdt hirq hloaded),
    fun hirq hloaded hbusy => records (gateTear_iff.2 ⟨hirq, hloaded, hbusy⟩),
    fun hirq hloaded hgate h => records (deliveryCheck_unwiredVector hirq hloaded hgate h),
    fun hirq hloaded hgate hlimit hattr hsel hstub => records ?_,
    fun hwired hbusy => records (deliveryCheck_timer hwired hbusy)⟩
  exact deliveryCheck_unknownStub hirq hloaded hgate hlimit hattr hsel (stubIndex_eq_none hstub)

end Sys2Proof.Machine
end

section
/-! PROOFS. What the CPU takes of the controller pair (R349): the lowest-numbered ready line, and of the secondary through
input 2 of the primary. -/

namespace Sys2Proof.Machine

open Sys2Proof

/-! ### Ready lines (R349 steps 2 and 3) -/

/-- No line of priority `n` or higher is in service. -/
theorem and_bitsUpTo_eq_zero_iff (x : Byte) (n : Fin 8) :
    x &&& bitsUpTo n = 0 ↔ ∀ k : Fin 8, k ≤ n → x.getLsbD k = false := by
  have hbits : ∀ n k : Fin 8, (bitsUpTo n).getLsbD k = decide (k ≤ n) := by decide
  have hand (k : Fin 8) : (x &&& bitsUpTo n).getLsbD k = (x.getLsbD k && decide (k ≤ n)) := by
    rw [BitVec.getLsbD_and, hbits]
  have hzero (k : Nat) : (0 : Byte).getLsbD k = false := BitVec.getLsbD_zero
  constructor
  · intro h k hk
    have hbit := hand k
    rw [h, hzero, decide_eq_true hk, Bool.and_true] at hbit
    exact hbit.symm
  · intro h
    refine BitVec.eq_of_getLsbD_eq fun i hi => (hand ⟨i, hi⟩).trans ?_
    by_cases hk : (⟨i, hi⟩ : Fin 8) ≤ n
    · rw [h ⟨i, hi⟩ hk, Bool.false_and, hzero]
    · rw [decide_eq_false hk, Bool.and_false, hzero]

theorem picReady_iff (p : Pic) (requested : Byte) (n : Fin 8) :
    picReady p requested n = true ↔ lineReady { p with irr := requested } n := by
  rw [picReady, lineReady, ← and_bitsUpTo_eq_zero_iff]
  simp only [Bool.and_eq_true, Bool.not_eq_true', beq_iff_eq, and_assoc]

/-- The lowest-numbered ready bit (R349 step 4). -/
theorem picPick_eq_some {p : Pic} {requested : Byte} {n : Fin 8} (hn : lineReady { p with irr := requested } n)
    (hlower : ∀ k : Fin 8, k < n → ¬ lineReady { p with irr := requested } k) : picPick p requested = some n := by
  have hlist : ([0, 1, 2, 3, 4, 5, 6, 7] : List (Fin 8)) = List.finRange 8 := by decide
  rw [picPick, hlist, List.find?_eq_some_iff_getElem]
  refine ⟨(picReady_iff p requested n).2 hn, n, by simp, by simp, fun j hj => ?_⟩
  simpa [← picReady_iff] using hlower ⟨j, by omega⟩ hj

theorem picPick_eq_none_iff {p : Pic} {requested : Byte} :
    picPick p requested = none ↔ ∀ k : Fin 8, ¬ lineReady { p with irr := requested } k := by
  have hall : ∀ k : Fin 8, k ∈ ([0, 1, 2, 3, 4, 5, 6, 7] : List (Fin 8)) := by decide
  simp only [picPick, List.find?_eq_none, picReady_iff]
  exact ⟨fun h k => h k (hall k), fun h k _ => h k⟩

/-! ### The pair (R349 steps 2 to 4) -/

/-- The request register of the primary, where `sec` is what the secondary makes of input 2. -/
def cascaded (irr : Byte) (sec : Bool) : Byte := if sec then irr ||| bitMask 2 else irr &&& ~~~bitMask 2

theorem cascaded_getLsbD (irr : Byte) (sec : Bool) (k : Fin 8) :
    (cascaded irr sec).getLsbD k = if k = 2 then sec else irr.getLsbD k := by
  have hmask : ∀ k : Fin 8, (bitMask 2).getLsbD k = decide (k = 2) := by decide
  cases sec with
  | false =>
    rw [cascaded, if_neg Bool.false_ne_true, BitVec.getLsbD_and, BitVec.getLsbD_not, hmask]
    by_cases hk : k = 2 <;> simp [hk]
  | true =>
    rw [cascaded, if_pos rfl, BitVec.getLsbD_or, hmask]
    by_cases hk : k = 2 <;> simp [hk]

/-- The primary controller, its input 2 driven by the secondary. -/
def State.primary (s : State) : Pic :=
  { s.pic1 with irr := cascaded s.pic1.irr (picPick s.pic2 s.pic2.irr).isSome }

/-- The primary's line that the CPU would take. -/
def State.pairPick (s : State) : Option (Fin 8) := picPick s.pic1 s.primary.irr

theorem acknowledge_of_pairPick_none {s : State} (h : s.pairPick = none) : s.acknowledge = none := by
  unfold State.pairPick State.primary cascaded at h
  simp only [State.acknowledge, h]

theorem acknowledge_of_pairPick_primary {s : State} {n : Fin 8} (h : s.pairPick = some n) (hn : n ≠ 2) :
    s.acknowledge = some (picVector s.pic1 n, { s with pic1 := picTake s.pic1 n }) := by
  unfold State.pairPick State.primary cascaded at h
  simp only [State.acknowledge, h]
  split
  · exact absurd rfl hn
  · rfl

theorem acknowledge_of_pairPick_secondary {s : State} {m : Fin 8} (h : s.pairPick = some 2)
    (hm : picPick s.pic2 s.pic2.irr = some m) :
    s.acknowledge = some (picVector s.pic2 m, { s with pic1 := picTake s.pic1 2, pic2 := picTake s.pic2 m }) := by
  unfold State.pairPick State.primary cascaded at h
  rw [hm] at h
  simp only [State.acknowledge, hm, h]

/-! ### Which line is taken (R349 step 4) -/

/-- The secondary acts on no line of the primary but input 2. -/
theorem primary_lineReady_iff (s : State) {k : Fin 8} (hk : k ≠ 2) : lineReady s.primary k ↔ lineReady s.pic1 k := by
  simp only [lineReady, State.primary, cascaded_getLsbD, if_neg hk]

/-- Input 2 is ready only through a line of the secondary (R349 step 3). -/
theorem primary_lineReady_two_iff (s : State) :
    lineReady s.primary 2 ↔
      (∃ m : Fin 8, lineReady s.pic2 m) ∧ s.pic1.imr.getLsbD 2 = false ∧
        ∀ k : Fin 8, k ≤ 2 → s.pic1.isr.getLsbD k = false := by
  have hsec : (picPick s.pic2 s.pic2.irr).isSome = true ↔ ∃ m : Fin 8, lineReady s.pic2 m := by
    rw [← Option.ne_none_iff_isSome, Ne, picPick_eq_none_iff, not_forall_not]
  rw [← hsec, lineReady, State.primary, cascaded_getLsbD, if_pos rfl]
  rfl

/-- The pair gives up the primary's lowest-numbered ready line, or none. -/
theorem pairPick_eq_some {s : State} {n : Fin 8} (hready : lineReady s.primary n)
    (hlower : ∀ k : Fin 8, k < n → ¬ lineReady s.primary k) : s.pairPick = some n :=
  picPick_eq_some hready hlower

theorem pairPick_eq_none {s : State} (hnone : ∀ k : Fin 8, ¬ lineReady s.primary k) : s.pairPick = none :=
  picPick_eq_none_iff.2 hnone

/-- A line of the primary is taken where no line before it is ready, input 2 included. -/
theorem pairPick_primary {s : State} {n : Fin 8} (hn : n ≠ 2) (hready : lineReady s.pic1 n)
    (hlower : ∀ k : Fin 8, k < n → k ≠ 2 → ¬ lineReady s.pic1 k)
    (hinput : 2 < n → (∀ m : Fin 8, ¬ lineReady s.pic2 m) ∨ s.pic1.imr.getLsbD 2 = true) : s.pairPick = some n := by
  refine pairPick_eq_some ((primary_lineReady_iff s hn).2 hready) fun k hk => ?_
  by_cases h2 : k = 2
  · subst h2
    rw [primary_lineReady_two_iff]
    rintro ⟨⟨m, hm⟩, hmask, -⟩
    rcases hinput hk with hnone | hmasked
    · exact hnone m hm
    · exact Bool.false_ne_true (hmask.symm.trans hmasked)
  · rw [primary_lineReady_iff s h2]
    exact hlower k hk h2

/-- Input 2 is taken where it is ready and lines 0 and 1 are not. -/
theorem pairPick_secondary {s : State} {m : Fin 8} (hready : lineReady s.pic2 m) (hmask : s.pic1.imr.getLsbD 2 = false)
    (hservice : ∀ k : Fin 8, k ≤ 2 → s.pic1.isr.getLsbD k = false) (h0 : ¬ lineReady s.pic1 0)
    (h1 : ¬ lineReady s.pic1 1) : s.pairPick = some 2 := by
  have hbelow : ∀ k : Fin 8, k < 2 → k ≠ 2 ∧ (k = 0 ∨ k = 1) := by decide
  refine pairPick_eq_some ((primary_lineReady_two_iff s).2 ⟨⟨m, hready⟩, hmask, hservice⟩) fun k hk => ?_
  obtain ⟨h2, rfl | rfl⟩ := hbelow k hk
  · rwa [primary_lineReady_iff s h2]
  · rwa [primary_lineReady_iff s h2]

/-- Nothing is taken where no line of the primary is ready, input 2 included. -/
theorem pairPick_none {s : State} (hnone : ∀ k : Fin 8, k ≠ 2 → ¬ lineReady s.pic1 k)
    (hinput : (∀ m : Fin 8, ¬ lineReady s.pic2 m) ∨ s.pic1.imr.getLsbD 2 = true ∨
      ∃ k : Fin 8, k ≤ 2 ∧ s.pic1.isr.getLsbD k = true) : s.pairPick = none := by
  refine pairPick_eq_none fun k => ?_
  by_cases h2 : k = 2
  · subst h2
    rw [primary_lineReady_two_iff]
    rintro ⟨⟨m, hm⟩, hmask, hservice⟩
    rcases hinput with hsec | hmasked | ⟨k, hk, hheld⟩
    · exact hsec m hm
    · exact Bool.false_ne_true (hmask.symm.trans hmasked)
    · exact Bool.false_ne_true ((hservice k hk).symm.trans hheld)
  · rw [primary_lineReady_iff s h2]
    exact hnone k h2

/-! ### The taking (R349 step 4, log 10) -/

theorem picTake_eq_lineTaken (p : Pic) (n : Fin 8) : picTake p n = lineTaken p n := by
  have hmask : ∀ n : Fin 8, bitMask n = 1#8 <<< n.val := by decide
  simp only [picTake, lineTaken, hmask]

/-- The taking delivers the vector of what the pair gives up. -/
theorem stimulusWith_take (deliver : Byte → State → State) {s t : State} {v : Byte} (hifl : s.cpu.ifl = true)
    (h : s.acknowledge = some (v, t)) : stimulusWith deliver .take s = deliver v t := by
  simp only [stimulusWith, hifl, h, if_true]

theorem stimulusWith_take_of_none (deliver : Byte → State → State) {s : State} (h : s.acknowledge = none) :
    stimulusWith deliver .take s = s := by
  simp only [stimulusWith, h, ite_self]

/-- A taking is the delivery of the vector, from the state in which the controllers have taken the lines. -/
theorem step_take {s : State} {v : Byte} {p1 p2 : Pic} {during : List (List Stimulus)} {rest : List Input} (hs : s.Ready)
    (hifl : s.cpu.ifl = true) (hin : s.inputs = .stim [.take] during :: rest)
    (htaken : State.acknowledge { s with inputs := rest, script := during } =
      some (v, { s with inputs := rest, script := during, pic1 := p1, pic2 := p2 })) :
    step s = step { s with pic1 := p1, pic2 := p2, inputs := .stim [.deliver v] during :: rest } := by
  have hready : ({ s with pic1 := p1, pic2 := p2, inputs := .stim [.deliver v] during :: rest } : State).Ready := hs
  have htake : stimulusWith deliverOp .take { s with inputs := rest, script := during } =
      deliverOp v { s with inputs := rest, script := during, pic1 := p1, pic2 := p2 } :=
    stimulusWith_take deliverOp hifl htaken
  have hdeliver : stimulusWith deliverOp (.deliver v) { s with inputs := rest, script := during, pic1 := p1, pic2 := p2 } =
      deliverOp v { s with inputs := rest, script := during, pic1 := p1, pic2 := p2 } :=
    stimulusWith_unmasked deliverOp (.inr hifl)
  rw [step_stim_singleton hs hin, step_stim_singleton hready rfl, htake, hdeliver]
  exact congrArg _ (finish_congr _ rfl)

end Sys2Proof.Machine
end

section
/-! PROOFS. The order in which main context's CPU meets what lands at one boundary (R358 items 1 and 2, log 11): an exception
or NMI comes before what is taken after it, wherever in the batch it stands. -/

namespace Sys2Proof.Machine

open Sys2Proof

/-! ### What a stimulus asks for -/

theorem deliversNothing_asks {x : Stimulus} (h : deliversNothing x = true) :
    isException x = false ∧ isNmi x = false ∧ isMaskable x = false := by
  cases x with
  | take => exact nomatch h
  | deliver v => exact nomatch h
  | _ => exact ⟨rfl, rfl, rfl⟩

theorem isNmi_deliver (v : Byte) : isNmi (.deliver v) = (v == 2) := by
  rw [Bool.eq_iff_iff, isNmi, beq_iff_eq, beq_iff_eq, Stimulus.deliver.injEq]

/-- What is taken after `v`: a maskable interrupt, and the NMI after any other exception. -/
theorem takenAfter_eq (v : Byte) (x : Stimulus) : takenAfter v x = (isMaskable x || (isNmi x && v != 2)) := by
  cases x with
  | deliver y => rw [isNmi_deliver]; rfl
  | take => rfl
  | _ => rfl

theorem isException_deliver {v : Byte} (hv : v.toNat ≤ 31) : isException (.deliver v) = (v != 2) := by
  simp [isException, hv]

theorem isMaskable_deliver {v : Byte} (hv : v.toNat ≤ 31) : isMaskable (.deliver v) = false :=
  decide_eq_false (by omega)

/-- An exception is no interrupt. -/
theorem isException_of_interrupt {x : Stimulus} (h : isNmi x = true ∨ isMaskable x = true) : isException x = false := by
  cases x with
  | deliver v =>
    rw [isNmi_deliver, beq_iff_eq] at h
    rcases h with rfl | h
    · rfl
    · have hv : 32 ≤ v.toNat := of_decide_eq_true h
      simp only [isException, decide_eq_false (show ¬ v.toNat ≤ 31 by omega), Bool.false_and]
  | _ => rfl

/-- The NMI is not maskable. -/
theorem isNmi_of_maskable {x : Stimulus} (h : isMaskable x = true) : isNmi x = false := by
  cases x with
  | deliver v =>
    have hv : 32 ≤ v.toNat := of_decide_eq_true h
    rw [isNmi_deliver, beq_eq_false_iff_ne]
    rintro rfl
    exact absurd hv (by decide)
  | take => rfl
  | _ => exact nomatch h

/-- A stimulus that asks for no delivery waits for none. -/
theorem deliversNothing_not_interrupt {x : Stimulus} (h : deliversNothing x = true) : (isNmi x || isMaskable x) = false := by
  obtain ⟨-, hnmi, hmaskable⟩ := deliversNothing_asks h
  rw [hnmi, hmaskable, Bool.or_false]

/-! ### Hoisting -/

section
variable {first later : Stimulus → Bool}

/-- A list that holds nothing to hoist stays as it is. -/
theorem hoist_of_no_first {xs : List Stimulus} (h : ∀ y ∈ xs, first y = false) : hoist first later xs = xs := by
  have hdrop (y : Stimulus) (hy : y ∈ xs.dropWhile (!later ·)) : first y = false :=
    h y ((List.dropWhile_sublist _).subset hy)
  rw [hoist, List.filter_eq_nil_iff.2 fun y hy => by simp [hdrop y hy],
    List.filter_eq_self.2 fun y hy => by simp [hdrop y hy], List.append_nil, List.takeWhile_append_dropWhile]

/-- From the first stimulus that `later` selects on, the list is sorted by `first`. -/
theorem hoist_from_later {pre xs : List Stimulus} {x : Stimulus} (hpre : ∀ y ∈ pre, later y = false)
    (hx : later x = true) :
    hoist first later (pre ++ x :: xs) = pre ++ ((x :: xs).filter first ++ (x :: xs).filter (!first ·)) := by
  rw [hoist_append first later pre _ hpre]
  simp [hoist, hx]

/-- A stimulus that is hoisted over `x` may as well stand right before it. -/
theorem hoist_moved {pre mid post : List Stimulus} {a x : Stimulus} (hpre : ∀ y ∈ pre, later y = false)
    (ha : first a = true) (ha' : later a = false) (hx : later x = true) (hx' : first x = false)
    (hmid : ∀ y ∈ mid, first y = false) :
    hoist first later (pre ++ x :: (mid ++ a :: post)) = hoist first later (pre ++ a :: x :: (mid ++ post)) := by
  have hpre' : ∀ y ∈ pre ++ [a], later y = false := by simpa [or_imp, forall_and, ha'] using hpre
  have hnone : mid.filter first = [] := List.filter_eq_nil_iff.2 fun y hy => by simp [hmid y hy]
  have hall : mid.filter (!first ·) = mid := List.filter_eq_self.2 fun y hy => by simp [hmid y hy]
  rw [hoist_from_later hpre hx, List.append_cons pre a, hoist_from_later hpre' hx]
  simp [ha, hx', hnone, hall]

end

/-! ### The order of a batch -/

/-- Nothing that lands without a delivery, and nothing that is taken after `v`, is an exception. -/
theorem isException_of_waits {v : Byte} {y : Stimulus} (h : deliversNothing y = true ∨ takenAfter v y = true) :
    isException y = false := by
  rcases h with h | h
  · exact (deliversNothing_asks h).1
  · rw [takenAfter_eq, Bool.or_eq_true, Bool.and_eq_true] at h
    exact isException_of_interrupt (h.symm.imp_left And.left)

/-- What is taken after the NMI is maskable. -/
theorem takenAfter_nmi (y : Stimulus) : takenAfter 2 y = isMaskable y := by
  rw [takenAfter_eq, bne_self_eq_false, Bool.and_false, Bool.or_false]

theorem isNmi_of_waits {y : Stimulus} (h : deliversNothing y = true ∨ takenAfter 2 y = true) : isNmi y = false := by
  rcases h with h | h
  · obtain ⟨-, hnmi, -⟩ := deliversNothing_asks h
    exact hnmi
  · exact isNmi_of_maskable (takenAfter_nmi y ▸ h)

section
variable {v : Byte} {x : Stimulus} {pre mid post : List Stimulus} (hpre : ∀ y ∈ pre, deliversNothing y = true)
  (hx : takenAfter v x = true) (hmid : ∀ y ∈ mid, deliversNothing y = true ∨ takenAfter v y = true)
include hpre hx hmid

/-- An exception is hoisted over every interrupt (R358 item 1). -/
theorem orderBatch_moved_exception (hv : v.toNat ≤ 31) (hne : v ≠ 2) :
    orderBatch (pre ++ x :: (mid ++ .deliver v :: post)) = orderBatch (pre ++ .deliver v :: x :: (mid ++ post)) := by
  have hlater : (isNmi x || isMaskable x) = true := by
    rwa [takenAfter_eq, bne_iff_ne.2 hne, Bool.and_true, Bool.or_comm] at hx
  refine congrArg (hoist isNmi isMaskable) (hoist_moved (fun y hy => ?_) ?_ ?_ hlater ?_ fun y hy => ?_)
  · exact deliversNothing_not_interrupt (hpre y hy)
  · rw [isException_deliver hv, bne_iff_ne.2 hne]
  · rw [isNmi_deliver, beq_eq_false_iff_ne.2 hne, isMaskable_deliver hv, Bool.or_false]
  · exact isException_of_waits (.inr hx)
  · exact isException_of_waits (hmid y hy)

/-- The NMI is hoisted over every maskable interrupt (R358 item 2), after the exceptions. -/
theorem orderBatch_moved_nmi (hv : v = 2) :
    orderBatch (pre ++ x :: (mid ++ .deliver v :: post)) = orderBatch (pre ++ .deliver v :: x :: (mid ++ post)) := by
  subst hv
  have hmaskable : isMaskable x = true := takenAfter_nmi x ▸ hx
  have hxExc : isException x = false := isException_of_waits (.inr hx)
  have hmidNone : mid.filter isException = [] :=
    List.filter_eq_nil_iff.2 fun y hy => by simp [isException_of_waits (hmid y hy)]
  have hmidAll : mid.filter (!isException ·) = mid :=
    List.filter_eq_self.2 fun y hy => by simp [isException_of_waits (hmid y hy)]
  have hpreLater (y : Stimulus) (hy : y ∈ pre) : (isNmi y || isMaskable y) = false :=
    deliversNothing_not_interrupt (hpre y hy)
  have hleft : hoist isException (fun x => isNmi x || isMaskable x) (pre ++ x :: (mid ++ .deliver 2 :: post)) =
      pre ++ post.filter isException ++ x :: (mid ++ .deliver 2 :: post.filter (!isException ·)) := by
    rw [hoist_from_later hpreLater (by rw [hmaskable, Bool.or_true])]
    simp [hxExc, hmidNone, hmidAll, isException_deliver]
  have hright : hoist isException (fun x => isNmi x || isMaskable x) (pre ++ .deliver 2 :: x :: (mid ++ post)) =
      pre ++ post.filter isException ++ .deliver 2 :: x :: (mid ++ post.filter (!isException ·)) := by
    rw [hoist_from_later hpreLater rfl]
    simp [hxExc, hmidNone, hmidAll, isException_deliver]
  rw [orderBatch, orderBatch, hleft, hright]
  refine hoist_moved (fun y hy => ?_) rfl rfl hmaskable (isNmi_of_maskable hmaskable) fun y hy =>
    isNmi_of_waits (hmid y hy)
  rcases List.mem_append.1 hy with hy | hy
  · obtain ⟨-, -, hnone⟩ := deliversNothing_asks (hpre y hy)
    exact hnone
  · have hexc : isException y = true := List.of_mem_filter hy
    exact Bool.eq_false_iff.2 fun h => Bool.false_ne_true ((isException_of_interrupt (.inr h)).symm.trans hexc)

/-- R358: a batch acts as the one with `v` moved before the first stimulus that is taken after it. -/
theorem orderBatch_moved (hv : v.toNat ≤ 31) :
    orderBatch (pre ++ x :: (mid ++ .deliver v :: post)) = orderBatch (pre ++ .deliver v :: x :: (mid ++ post)) := by
  by_cases hnmi : v = 2
  · exact orderBatch_moved_nmi hpre hx hmid hnmi
  · exact orderBatch_moved_exception hpre hx hmid hv hnmi

end

/-- An exception or NMI and what is taken after it stay as they are. -/
theorem orderBatch_pair {v : Byte} {x : Stimulus} (hv : v.toNat ≤ 31) (hx : takenAfter v x = true) :
    orderBatch [.deliver v, x] = [.deliver v, x] := by
  have hxExc : isException x = false := isException_of_waits (.inr hx)
  have hsorted {first later : Stimulus → Bool} (h : later (.deliver v) = false) :
      hoist first later [.deliver v, x] = [.deliver v, x] := by
    rw [← List.singleton_append, hoist_append _ _ _ _ (by simpa using h), hoist_singleton]
  have hexceptions : hoist isException (fun x => isNmi x || isMaskable x) [.deliver v, x] = [.deliver v, x] := by
    by_cases hnmi : v = 2
    · have hvExc : isException (.deliver v) = false := by
        rw [isException_deliver hv, hnmi]
        rfl
      exact hoist_of_no_first (by simp [hvExc, hxExc])
    · exact hsorted (by rw [isNmi_deliver, beq_eq_false_iff_ne.2 hnmi, isMaskable_deliver hv, Bool.or_false])
  rw [orderBatch, hexceptions, hsorted (isMaskable_deliver hv)]

/-! ### What acts on a batch -/

/-- Batches of one order act alike in a step. -/
theorem step_batch_congr {s : State} {xs ys : List Stimulus} {during : List (List Stimulus)} {rest : List Input}
    (horder : orderBatch xs = orderBatch ys) (hhang : s.hang = none) (hin : s.inputs = .stim xs during :: rest) :
    step s = step { s with inputs := .stim ys during :: rest } := by
  have hrun : runStep s = runStep { s with inputs := .stim ys during :: rest } := by
    rw [runStep_stim hhang hin, runStep_stim (s := { s with inputs := .stim ys during :: rest }) hhang rfl, runBatch,
      runBatch, horder]
  unfold step
  rw [hrun]

/-- Batches of one order act alike at a boundary inside an operation. -/
theorem envM_batch_congr {s : State} {xs ys : List Stimulus} {during : List (List Stimulus)}
    (horder : orderBatch xs = orderBatch ys) (hscript : s.script = xs :: during) :
    envM s = envM { s with script := ys :: during } := by
  simp only [envM, hscript, horder]

/-- Where `v` is reported first and main context goes on past it, the step is that of the other stimulus alone from the
reported state. -/
theorem step_report_then {s : State} {v w : Byte} {x : Stimulus} {rest : List Input} (hs : s.Ready) (hv : v.toNat ≤ 31)
    (hx : takenAfter v x = true) (hin : s.inputs = .stim [.deliver v, x] [] :: rest) (hwired : wiredTo s v w)
    (hw : w.toNat ≤ 31) (hpast : resumeAt s.cfg v (restPoint s rest) = .past) :
    step s = step { afterReport w s with inputs := .stim [x] [] :: rest } := by
  have hreported : ({ afterReport w s with inputs := .stim [x] [] :: rest } : State).Ready := hs
  obtain ⟨hwf, ⟨hfaults, hhang, hredirect, -⟩, hctx, hrunning, hpassed⟩ := hs
  have hstart : ({ s with inputs := rest, script := [] } : State).Quiet := ⟨hfaults, hhang, hredirect, rfl⟩
  have hpoint : State.point { s with inputs := rest, script := [] } = restPoint s rest := by
    simp only [State.point, restPoint, hrunning, hpassed]
  have hreport : stimulusWith deliverOp (.deliver v) { s with inputs := rest, script := [] } =
      afterReport w { s with inputs := rest, script := [] } := by
    rw [stimulusWith_exception _ _ hv, deliverOp, hpoint, deliverAt_exception _ hstart hctx hv hwired hw, hpast]
    rfl
  have hbatch : stimuliWith State.live deliverOp [.deliver v, x] { s with inputs := rest, script := [] } =
      stimulusWith deliverOp x (afterReport w { s with inputs := rest, script := [] }) := by
    rw [stimuliWith, hreport]
    simp [(afterReport_quiet hstart w).live_eq]
  rw [step_of_faults_nil hwf hfaults, runStep_stim hhang hin, runBatch, orderBatch_pair hv hx, hbatch,
    step_stim_singleton hreported rfl]
  exact congrArg _ (finish_congr _ rfl)

/-! ### The obligation -/

/-- Settles O54: the taking is the delivery of what the pair gives up, and a batch is met in the order of R358. -/
theorem takeDeliversHighestPriority : Obligations.TakeDeliversHighestPriority := by
  unfold Obligations.TakeDeliversHighestPriority
  refine ⟨fun s n during rest hs hifl hin => ⟨?primary, ?secondary, ?nothing⟩, ?reported, ?moved⟩
  case primary =>
    intro hn hready hlower hinput _
    rw [← picTake_eq_lineTaken]
    exact step_take hs hifl hin (acknowledge_of_pairPick_primary (pairPick_primary hn hready hlower hinput) hn)
  case secondary =>
    intro hready hlower hmask hservice h0 h1 _
    rw [← picTake_eq_lineTaken, ← picTake_eq_lineTaken]
    exact step_take hs hifl hin
      (acknowledge_of_pairPick_secondary (pairPick_secondary hready hmask hservice h0 h1) (picPick_eq_some hready hlower))
  case nothing =>
    intro hnone hinput
    exact step_stim_without_effect hs hin
      (stimulusWith_take_of_none deliverOp (acknowledge_of_pairPick_none (pairPick_none hnone hinput)))
  case reported =>
    intro s v w x rest hs hv hx hin hwired hw hpast
    have hmoved : orderBatch [x, .deliver v] = orderBatch [.deliver v, x] :=
      orderBatch_moved (pre := []) (mid := []) (post := []) nofun hx nofun hv
    obtain ⟨-, ⟨-, hhang, -⟩, -⟩ := id hs
    rw [step_batch_congr hmoved hhang hin]
    exact step_report_then (s := { s with inputs := .stim [.deliver v, x] [] :: rest }) hs hv hx rfl hwired hw hpast
  case moved =>
    intro s v x pre mid post during rest hv hpre hx hmid
    have hmoved := orderBatch_moved (post := post) hpre hx hmid hv
    exact ⟨step_batch_congr hmoved, envM_batch_congr hmoved⟩

end Sys2Proof.Machine
end

section
/-! PROOFS. The state after reset (R380): every element at its stated value or the draw's, and the invariant of the steps,
which `stepKeepsInvariant` carries on from there. -/

namespace Sys2Proof.Machine

open Sys2Proof

/-- R39: a slot of the timeout table after reset is inactive, and its other fields are the draw's. -/
theorem resetWith_slot (c : Config) (d : Draw) (i : Fin 16) :
    (State.resetWith c d).tmo[i] = { cb := d.slots[i].1, target := d.slots[i].2, active := false } := by
  simp [State.resetWith]

/-- Settles O56: every row of R380 holds by definition but those of the timeout table, which is computed from the draw. -/
theorem resetState : Obligations.ResetState := by
  unfold Obligations.ResetState
  intro c d
  have hslot := resetWith_slot c d
  refine ⟨rfl, rfl, rfl, rfl, ?inactive, rfl, rfl, rfl, rfl, rfl, rfl, rfl, rfl, rfl, rfl, rfl, rfl, rfl, rfl, rfl, rfl,
    rfl, rfl, rfl, rfl, rfl, rfl, rfl, rfl, rfl, ?drawn, rfl, rfl, rfl, rfl, rfl, rfl⟩
  case inactive => exact fun i => congrArg Timeout.active (hslot i)
  case drawn => exact fun i => ⟨congrArg Timeout.cb (hslot i), congrArg Timeout.target (hslot i)⟩

/-- Reset asks of the draw only that its memory is canonical: no fault is recorded, main context runs, and no operation is
under way. -/
theorem resetWith_inv (c : Config) {d : Draw} (hmem : d.mem.wf = true) : (State.resetWith c d).Inv where
  mem := hmem
  oneFault := Nat.zero_le 1
  settled := rfl
  atRest _ := ⟨rfl, rfl, rfl, rfl, rfl⟩
  wholeOperations _ _ := ⟨rfl, rfl, rfl, rfl⟩

/-- Settles O57: `State.reset` is the reset state of C0 and the zero draw. -/
theorem resetHasInvariant : Obligations.ResetHasInvariant := by
  unfold Obligations.ResetHasInvariant
  exact ⟨resetWith_inv Config.c0 reset_mem_wf, fun c _ hmem => resetWith_inv c hmem⟩

end Sys2Proof.Machine
end
